-- ==== Sys2Proof/Word.lean ====
section
/-! DEFINITION. The word types of the block: port words, bytes, half-words, colours, opcodes (00_scope R8). -/

namespace Sys2Proof

/-- A port word, an argument word, a read result: 32 bits (00_scope R5 `WORD_BITS`). -/
abbrev Word := BitVec 32

/-- One byte of the model's memory list; also a colour channel of a command (00_scope R8). -/
abbrev Byte := BitVec 8

/-- A half-word of an argument word, and one framebuffer cell (00_scope R5 `CELL_BITS`). -/
abbrev Half := BitVec 16

/-- A 24-bit colour or parameter, bits 23:0 of a command word (30_encoding R91, R100). -/
abbrev Color := BitVec 24

/-- A draw-port opcode: the high byte of a command word (30_encoding R91). -/
abbrev Opcode := BitVec 8

end Sys2Proof
end

