-- ==== Sys2Proof/Config.lean ====
section
/-! DEFINITION. The implementation parameters of 00_scope R5: the constants, the type that holds the OPEN
parameters, and the values the spec leaves free (constants without a body). -/

namespace Sys2Proof.Config

/-- `VRAM_W`: framebuffer columns (00_scope R5). -/
def vramWidth : Nat := 1024

/-- `VRAM_H`: framebuffer rows (00_scope R5). -/
def vramHeight : Nat := 512

/-- `ARG_BUF_WORDS`: capacity of the command argument buffer (00_scope R5). -/
def argBufWords : Nat := 16

/-- The behaviour of control opcode 0x01, parameter `GP1_01_BEHAVIOUR` (00_scope R5, 44_control_port R282). -/
inductive CommandBufferReset where
  /-- the in-flight draw command is dropped -/
  | clear
  /-- nothing happens -/
  | noop
  /-- the word is unrecognized -/
  | fatal
  deriving DecidableEq, Repr

/-- `CLIP_CONVENTION`: whether the right and bottom clip edges are inclusive. No rule reads it (10_state R27). -/
inductive ClipConvention where
  | inclusive
  | exclusive
  deriving DecidableEq, Repr, Inhabited

/-- The parameters marked OPEN in 00_scope R5 that some rule reads. A machine's parameters never change. -/
structure Params where
  /-- `COORD_BITS`: width of the signed vertex coordinate field (30_encoding R101) -/
  coordBits : Nat
  /-- `TERM_A`: first polyline terminator (30_encoding R113) -/
  termA : Word
  /-- `TERM_B`: second polyline terminator (30_encoding R113) -/
  termB : Word
  /-- `DOTS_PER_LINE` (46_timing_engine R341) -/
  dotsPerLine : Nat
  /-- `LINES_TOTAL_PAL` (46_timing_engine R345) -/
  linesTotalPal : Nat
  /-- `VBLANK_START_PAL` (46_timing_engine R345) -/
  vblankStartPal : Nat
  /-- `GPU_VERSION` (44_control_port R296) -/
  gpuVersion : Word
  /-- `READ_PAD`: upper half of the last word of an odd-sized VRAM to CPU transfer (45_bus_reads R323) -/
  readPad : Half
  /-- `GP1_01_BEHAVIOUR` (44_control_port R282) -/
  commandBufferReset : CommandBufferReset
  deriving DecidableEq, Repr

/-- The constraints the spec puts on the parameters: `0 < VBLANK_START_PAL <= LINES_TOTAL_PAL` (00_scope R5);
`DOTS_PER_LINE` is a positive constant (42_primitives R193 h); a coordinate field is 1 to 16 bits of a half-word
(30_encoding R101). -/
def Params.wf (p : Params) : Bool :=
  decide (0 < p.dotsPerLine) && decide (0 < p.vblankStartPal) && decide (p.vblankStartPal ≤ p.linesTotalPal)
    && decide (1 ≤ p.coordBits) && decide (p.coordBits ≤ 16)

/-- `VBLANK_START_PAL` less one: OPEN with no default (00_scope R5, D41). Any line of the PAL frame.
DESIGN CHOICE: a constant nothing is known of, log entry 5. -/
opaque freeVblankStartPal : Fin 314

/-- `READ_PAD`: OPEN, any value (00_scope R5, D36; 93_implementation_defined U11).
DESIGN CHOICE: a constant nothing is known of, log entry 6. -/
opaque freeReadPad : Half

/-- `VRAM_POWER_ON`: OPEN, any value (00_scope R5, D39; 93_implementation_defined U10). The bytes VRAM holds after
power-on, as (address, byte) pairs; a later pair for an address wins, and an address in no pair holds 0, so that every
function of the coordinates is given by some list (70_reset_and_hazards R399).
DESIGN CHOICE: a constant nothing is known of, log entry 7. -/
opaque freeVramPowerOn : List (Nat × Byte)

/-- `PORT_BASE`, the bus address of offset 0: fixed by the platform, read by no rule (20_memory R62). Log entry 15. -/
opaque portBase : Word

/-- `CLIP_CONVENTION`: OPEN, used by no rule (10_state R27, D58). Log entry 15. -/
opaque clipConvention : ClipConvention

end Sys2Proof.Config
end

