-- ==== Sys2Proof/Machine/Defaults.lean ====
section
/-! DEFINITION. The values State.reset takes for the parameters of 00_scope R5. -/

namespace Sys2Proof.Machine

/-- The parameters at their defaults: the values 00_scope R5 states, and a free constant where it states none
that a claim may use. DESIGN CHOICE: State holds the parameters, log entry 4. -/
def defaultParams : Config.Params where
  coordBits := 10
  termA := 0x55555555#32
  termB := 0x50005000#32
  dotsPerLine := 3413
  linesTotalPal := 314
  vblankStartPal := Config.freeVblankStartPal.val + 1
  gpuVersion := 2#32
  readPad := Config.freeReadPad
  commandBufferReset := .clear

end Sys2Proof.Machine
end

