-- ==== Sys2Proof/Syntax.lean ====
section
/-! DEFINITION. The instructions: one constructor of `Instr` for each row of spec/opcode_table.json, the operand
words they carry, and the transactions that reach the block (00_scope R3). -/

namespace Sys2Proof

/-- Format VERTEX (30_encoding R101): the two half-words of a position or rectangle-size word, kept whole; the low
`COORD_BITS` bits of each are used. -/
structure VertexWord where
  /-- bits 15:0 -/
  x : Half
  /-- bits 31:16 -/
  y : Half
  deriving DecidableEq, Repr

/-- Format TEXCOORD (30_encoding R102). -/
structure TexWord where
  /-- bits 7:0 -/
  u : Byte
  /-- bits 15:8 -/
  v : Byte
  /-- bits 31:16: CLUT reference or texture page -/
  attr : Half
  deriving DecidableEq, Repr

/-- A position or size word of the fill and of the copies: two half-words (30_encoding R105, R106). -/
structure PairWord where
  /-- bits 15:0: X or W -/
  lo : Half
  /-- bits 31:16: Y or H -/
  hi : Half
  deriving DecidableEq, Repr

/-- `dec_kind`: the class of a command that takes argument words (10_state R44). -/
inductive DecKind where
  | fill
  | polygon
  | line
  | rect
  | copyCpuVram
  | copyVramCpu
  | copyVramVram
  deriving DecidableEq, Repr

/-- The width of a bus access (20_memory R63). -/
inductive AccessSize where
  | byte
  | half
  | word
  deriving DecidableEq, Repr

/-- One interaction of an outside agent with the block (00_scope R3, 20_memory R61): a bus write or read at a byte
offset from `PORT_BASE`, a time step, a backend pixel write. -/
inductive Transaction where
  /-- offset 0 is `WriteGP0`, offset 4 is `WriteGP1` -/
  | write (offset : Nat) (size : AccessSize) (word : Word)
  /-- offset 0 is `ReadData`, offset 4 is `ReadStatus` -/
  | read (offset : Nat) (size : AccessSize)
  /-- `Step(cycles)` -/
  | elapse (cycles : Nat)
  /-- `BackendWrite(x, y, v, sm, cm)` -/
  | backend (x y : Int) (v : Half) (sm cm : Bool)
  deriving DecidableEq, Repr

/-- The instructions. A command with argument words carries the command word's parameter and all its arguments. -/
inductive Instr where
  /-- `NOP`, draw opcode 0x00 (R160). -/
  | nop
  /-- `CLEAR_CACHE`, draw opcode 0x01 (R161). -/
  | clearCache
  /-- `FILL_RECT`, draw opcode 0x02 (R197). -/
  | fillRect (c : Color) (pos size : PairWord)
  /-- `IRQ_REQUEST`, draw opcode 0x1F (R162). -/
  | irqRequest
  /-- `POLY_F3`, draw opcode 0x20 (R200). -/
  | polyF3 (c0 : Color) (v0 v1 v2 : VertexWord)
  /-- `POLY_F3_R`, draw opcode 0x21 (R200). -/
  | polyF3R (c0 : Color) (v0 v1 v2 : VertexWord)
  /-- `POLY_F3_S`, draw opcode 0x22 (R200). -/
  | polyF3S (c0 : Color) (v0 v1 v2 : VertexWord)
  /-- `POLY_F3_S_R`, draw opcode 0x23 (R200). -/
  | polyF3SR (c0 : Color) (v0 v1 v2 : VertexWord)
  /-- `POLY_FT3`, draw opcode 0x24 (R200). -/
  | polyFT3 (c0 : Color) (v0 : VertexWord) (t0 : TexWord) (v1 : VertexWord) (t1 : TexWord) (v2 : VertexWord) (t2 : TexWord)
  /-- `POLY_FT3_R`, draw opcode 0x25 (R200). -/
  | polyFT3R (c0 : Color) (v0 : VertexWord) (t0 : TexWord) (v1 : VertexWord) (t1 : TexWord) (v2 : VertexWord) (t2 : TexWord)
  /-- `POLY_FT3_S`, draw opcode 0x26 (R200). -/
  | polyFT3S (c0 : Color) (v0 : VertexWord) (t0 : TexWord) (v1 : VertexWord) (t1 : TexWord) (v2 : VertexWord) (t2 : TexWord)
  /-- `POLY_FT3_S_R`, draw opcode 0x27 (R200). -/
  | polyFT3SR (c0 : Color) (v0 : VertexWord) (t0 : TexWord) (v1 : VertexWord) (t1 : TexWord) (v2 : VertexWord) (t2 : TexWord)
  /-- `POLY_F4`, draw opcode 0x28 (R200). -/
  | polyF4 (c0 : Color) (v0 v1 v2 v3 : VertexWord)
  /-- `POLY_F4_R`, draw opcode 0x29 (R200). -/
  | polyF4R (c0 : Color) (v0 v1 v2 v3 : VertexWord)
  /-- `POLY_F4_S`, draw opcode 0x2A (R200). -/
  | polyF4S (c0 : Color) (v0 v1 v2 v3 : VertexWord)
  /-- `POLY_F4_S_R`, draw opcode 0x2B (R200). -/
  | polyF4SR (c0 : Color) (v0 v1 v2 v3 : VertexWord)
  /-- `POLY_FT4`, draw opcode 0x2C (R200). -/
  | polyFT4 (c0 : Color) (v0 : VertexWord) (t0 : TexWord) (v1 : VertexWord) (t1 : TexWord) (v2 : VertexWord) (t2 : TexWord) (v3 : VertexWord) (t3 : TexWord)
  /-- `POLY_FT4_R`, draw opcode 0x2D (R200). -/
  | polyFT4R (c0 : Color) (v0 : VertexWord) (t0 : TexWord) (v1 : VertexWord) (t1 : TexWord) (v2 : VertexWord) (t2 : TexWord) (v3 : VertexWord) (t3 : TexWord)
  /-- `POLY_FT4_S`, draw opcode 0x2E (R200). -/
  | polyFT4S (c0 : Color) (v0 : VertexWord) (t0 : TexWord) (v1 : VertexWord) (t1 : TexWord) (v2 : VertexWord) (t2 : TexWord) (v3 : VertexWord) (t3 : TexWord)
  /-- `POLY_FT4_S_R`, draw opcode 0x2F (R200). -/
  | polyFT4SR (c0 : Color) (v0 : VertexWord) (t0 : TexWord) (v1 : VertexWord) (t1 : TexWord) (v2 : VertexWord) (t2 : TexWord) (v3 : VertexWord) (t3 : TexWord)
  /-- `POLY_G3`, draw opcode 0x30 (R200). -/
  | polyG3 (c0 : Color) (v0 : VertexWord) (c1 : Color) (v1 : VertexWord) (c2 : Color) (v2 : VertexWord)
  /-- `POLY_G3_R`, draw opcode 0x31 (R200). -/
  | polyG3R (c0 : Color) (v0 : VertexWord) (c1 : Color) (v1 : VertexWord) (c2 : Color) (v2 : VertexWord)
  /-- `POLY_G3_S`, draw opcode 0x32 (R200). -/
  | polyG3S (c0 : Color) (v0 : VertexWord) (c1 : Color) (v1 : VertexWord) (c2 : Color) (v2 : VertexWord)
  /-- `POLY_G3_S_R`, draw opcode 0x33 (R200). -/
  | polyG3SR (c0 : Color) (v0 : VertexWord) (c1 : Color) (v1 : VertexWord) (c2 : Color) (v2 : VertexWord)
  /-- `POLY_GT3`, draw opcode 0x34 (R200). -/
  | polyGT3 (c0 : Color) (v0 : VertexWord) (t0 : TexWord) (c1 : Color) (v1 : VertexWord) (t1 : TexWord) (c2 : Color) (v2 : VertexWord) (t2 : TexWord)
  /-- `POLY_GT3_R`, draw opcode 0x35 (R200). -/
  | polyGT3R (c0 : Color) (v0 : VertexWord) (t0 : TexWord) (c1 : Color) (v1 : VertexWord) (t1 : TexWord) (c2 : Color) (v2 : VertexWord) (t2 : TexWord)
  /-- `POLY_GT3_S`, draw opcode 0x36 (R200). -/
  | polyGT3S (c0 : Color) (v0 : VertexWord) (t0 : TexWord) (c1 : Color) (v1 : VertexWord) (t1 : TexWord) (c2 : Color) (v2 : VertexWord) (t2 : TexWord)
  /-- `POLY_GT3_S_R`, draw opcode 0x37 (R200). -/
  | polyGT3SR (c0 : Color) (v0 : VertexWord) (t0 : TexWord) (c1 : Color) (v1 : VertexWord) (t1 : TexWord) (c2 : Color) (v2 : VertexWord) (t2 : TexWord)
  /-- `POLY_G4`, draw opcode 0x38 (R200). -/
  | polyG4 (c0 : Color) (v0 : VertexWord) (c1 : Color) (v1 : VertexWord) (c2 : Color) (v2 : VertexWord) (c3 : Color) (v3 : VertexWord)
  /-- `POLY_G4_R`, draw opcode 0x39 (R200). -/
  | polyG4R (c0 : Color) (v0 : VertexWord) (c1 : Color) (v1 : VertexWord) (c2 : Color) (v2 : VertexWord) (c3 : Color) (v3 : VertexWord)
  /-- `POLY_G4_S`, draw opcode 0x3A (R200). -/
  | polyG4S (c0 : Color) (v0 : VertexWord) (c1 : Color) (v1 : VertexWord) (c2 : Color) (v2 : VertexWord) (c3 : Color) (v3 : VertexWord)
  /-- `POLY_G4_S_R`, draw opcode 0x3B (R200). -/
  | polyG4SR (c0 : Color) (v0 : VertexWord) (c1 : Color) (v1 : VertexWord) (c2 : Color) (v2 : VertexWord) (c3 : Color) (v3 : VertexWord)
  /-- `POLY_GT4`, draw opcode 0x3C (R200). -/
  | polyGT4 (c0 : Color) (v0 : VertexWord) (t0 : TexWord) (c1 : Color) (v1 : VertexWord) (t1 : TexWord) (c2 : Color) (v2 : VertexWord) (t2 : TexWord) (c3 : Color) (v3 : VertexWord) (t3 : TexWord)
  /-- `POLY_GT4_R`, draw opcode 0x3D (R200). -/
  | polyGT4R (c0 : Color) (v0 : VertexWord) (t0 : TexWord) (c1 : Color) (v1 : VertexWord) (t1 : TexWord) (c2 : Color) (v2 : VertexWord) (t2 : TexWord) (c3 : Color) (v3 : VertexWord) (t3 : TexWord)
  /-- `POLY_GT4_S`, draw opcode 0x3E (R200). -/
  | polyGT4S (c0 : Color) (v0 : VertexWord) (t0 : TexWord) (c1 : Color) (v1 : VertexWord) (t1 : TexWord) (c2 : Color) (v2 : VertexWord) (t2 : TexWord) (c3 : Color) (v3 : VertexWord) (t3 : TexWord)
  /-- `POLY_GT4_S_R`, draw opcode 0x3F (R200). -/
  | polyGT4SR (c0 : Color) (v0 : VertexWord) (t0 : TexWord) (c1 : Color) (v1 : VertexWord) (t1 : TexWord) (c2 : Color) (v2 : VertexWord) (t2 : TexWord) (c3 : Color) (v3 : VertexWord) (t3 : TexWord)
  /-- `LINE_F`, draw opcode 0x40 (R205). -/
  | lineF (c0 : Color) (v0 v1 : VertexWord)
  /-- `LINE_F_41`, draw opcode 0x41 (R205). -/
  | lineF41 (c0 : Color) (v0 v1 : VertexWord)
  /-- `LINE_F_S`, draw opcode 0x42 (R205). -/
  | lineFS (c0 : Color) (v0 v1 : VertexWord)
  /-- `LINE_F_S_43`, draw opcode 0x43 (R205). -/
  | lineFS43 (c0 : Color) (v0 v1 : VertexWord)
  /-- `LINE_F_44`, draw opcode 0x44 (R205). -/
  | lineF44 (c0 : Color) (v0 v1 : VertexWord)
  /-- `LINE_F_45`, draw opcode 0x45 (R205). -/
  | lineF45 (c0 : Color) (v0 v1 : VertexWord)
  /-- `LINE_F_S_46`, draw opcode 0x46 (R205). -/
  | lineFS46 (c0 : Color) (v0 v1 : VertexWord)
  /-- `LINE_F_S_47`, draw opcode 0x47 (R205). -/
  | lineFS47 (c0 : Color) (v0 v1 : VertexWord)
  /-- `PLINE_F`, draw opcode 0x48 (R206). -/
  | plineF (c0 : Color) (args : List Word)
  /-- `PLINE_F_49`, draw opcode 0x49 (R206). -/
  | plineF49 (c0 : Color) (args : List Word)
  /-- `PLINE_F_S`, draw opcode 0x4A (R206). -/
  | plineFS (c0 : Color) (args : List Word)
  /-- `PLINE_F_S_4B`, draw opcode 0x4B (R206). -/
  | plineFS4B (c0 : Color) (args : List Word)
  /-- `PLINE_F_4C`, draw opcode 0x4C (R206). -/
  | plineF4C (c0 : Color) (args : List Word)
  /-- `PLINE_F_4D`, draw opcode 0x4D (R206). -/
  | plineF4D (c0 : Color) (args : List Word)
  /-- `PLINE_F_S_4E`, draw opcode 0x4E (R206). -/
  | plineFS4E (c0 : Color) (args : List Word)
  /-- `PLINE_F_S_4F`, draw opcode 0x4F (R206). -/
  | plineFS4F (c0 : Color) (args : List Word)
  /-- `LINE_G`, draw opcode 0x50 (R205). -/
  | lineG (c0 : Color) (v0 : VertexWord) (c1 : Color) (v1 : VertexWord)
  /-- `LINE_G_51`, draw opcode 0x51 (R205). -/
  | lineG51 (c0 : Color) (v0 : VertexWord) (c1 : Color) (v1 : VertexWord)
  /-- `LINE_G_S`, draw opcode 0x52 (R205). -/
  | lineGS (c0 : Color) (v0 : VertexWord) (c1 : Color) (v1 : VertexWord)
  /-- `LINE_G_S_53`, draw opcode 0x53 (R205). -/
  | lineGS53 (c0 : Color) (v0 : VertexWord) (c1 : Color) (v1 : VertexWord)
  /-- `LINE_G_54`, draw opcode 0x54 (R205). -/
  | lineG54 (c0 : Color) (v0 : VertexWord) (c1 : Color) (v1 : VertexWord)
  /-- `LINE_G_55`, draw opcode 0x55 (R205). -/
  | lineG55 (c0 : Color) (v0 : VertexWord) (c1 : Color) (v1 : VertexWord)
  /-- `LINE_G_S_56`, draw opcode 0x56 (R205). -/
  | lineGS56 (c0 : Color) (v0 : VertexWord) (c1 : Color) (v1 : VertexWord)
  /-- `LINE_G_S_57`, draw opcode 0x57 (R205). -/
  | lineGS57 (c0 : Color) (v0 : VertexWord) (c1 : Color) (v1 : VertexWord)
  /-- `PLINE_G`, draw opcode 0x58 (R206). -/
  | plineG (c0 : Color) (args : List Word)
  /-- `PLINE_G_59`, draw opcode 0x59 (R206). -/
  | plineG59 (c0 : Color) (args : List Word)
  /-- `PLINE_G_S`, draw opcode 0x5A (R206). -/
  | plineGS (c0 : Color) (args : List Word)
  /-- `PLINE_G_S_5B`, draw opcode 0x5B (R206). -/
  | plineGS5B (c0 : Color) (args : List Word)
  /-- `PLINE_G_5C`, draw opcode 0x5C (R206). -/
  | plineG5C (c0 : Color) (args : List Word)
  /-- `PLINE_G_5D`, draw opcode 0x5D (R206). -/
  | plineG5D (c0 : Color) (args : List Word)
  /-- `PLINE_G_S_5E`, draw opcode 0x5E (R206). -/
  | plineGS5E (c0 : Color) (args : List Word)
  /-- `PLINE_G_S_5F`, draw opcode 0x5F (R206). -/
  | plineGS5F (c0 : Color) (args : List Word)
  /-- `RECT_V`, draw opcode 0x60 (R214). -/
  | rectV (c : Color) (pos size : VertexWord)
  /-- `RECT_V_R`, draw opcode 0x61 (R214). -/
  | rectVR (c : Color) (pos size : VertexWord)
  /-- `RECT_V_S`, draw opcode 0x62 (R214). -/
  | rectVS (c : Color) (pos size : VertexWord)
  /-- `RECT_V_S_R`, draw opcode 0x63 (R214). -/
  | rectVSR (c : Color) (pos size : VertexWord)
  /-- `RECT_VT`, draw opcode 0x64 (R214). -/
  | rectVT (c : Color) (pos : VertexWord) (tex : TexWord) (size : VertexWord)
  /-- `RECT_VT_R`, draw opcode 0x65 (R214). -/
  | rectVTR (c : Color) (pos : VertexWord) (tex : TexWord) (size : VertexWord)
  /-- `RECT_VT_S`, draw opcode 0x66 (R214). -/
  | rectVTS (c : Color) (pos : VertexWord) (tex : TexWord) (size : VertexWord)
  /-- `RECT_VT_S_R`, draw opcode 0x67 (R214). -/
  | rectVTSR (c : Color) (pos : VertexWord) (tex : TexWord) (size : VertexWord)
  /-- `RECT_1`, draw opcode 0x68 (R214). -/
  | rect1 (c : Color) (pos : VertexWord)
  /-- `RECT_1_R`, draw opcode 0x69 (R214). -/
  | rect1R (c : Color) (pos : VertexWord)
  /-- `RECT_1_S`, draw opcode 0x6A (R214). -/
  | rect1S (c : Color) (pos : VertexWord)
  /-- `RECT_1_S_R`, draw opcode 0x6B (R214). -/
  | rect1SR (c : Color) (pos : VertexWord)
  /-- `RECT_1T`, draw opcode 0x6C (R214). -/
  | rect1T (c : Color) (pos : VertexWord) (tex : TexWord)
  /-- `RECT_1T_R`, draw opcode 0x6D (R214). -/
  | rect1TR (c : Color) (pos : VertexWord) (tex : TexWord)
  /-- `RECT_1T_S`, draw opcode 0x6E (R214). -/
  | rect1TS (c : Color) (pos : VertexWord) (tex : TexWord)
  /-- `RECT_1T_S_R`, draw opcode 0x6F (R214). -/
  | rect1TSR (c : Color) (pos : VertexWord) (tex : TexWord)
  /-- `RECT_8`, draw opcode 0x70 (R214). -/
  | rect8 (c : Color) (pos : VertexWord)
  /-- `RECT_8_R`, draw opcode 0x71 (R214). -/
  | rect8R (c : Color) (pos : VertexWord)
  /-- `RECT_8_S`, draw opcode 0x72 (R214). -/
  | rect8S (c : Color) (pos : VertexWord)
  /-- `RECT_8_S_R`, draw opcode 0x73 (R214). -/
  | rect8SR (c : Color) (pos : VertexWord)
  /-- `RECT_8T`, draw opcode 0x74 (R214). -/
  | rect8T (c : Color) (pos : VertexWord) (tex : TexWord)
  /-- `RECT_8T_R`, draw opcode 0x75 (R214). -/
  | rect8TR (c : Color) (pos : VertexWord) (tex : TexWord)
  /-- `RECT_8T_S`, draw opcode 0x76 (R214). -/
  | rect8TS (c : Color) (pos : VertexWord) (tex : TexWord)
  /-- `RECT_8T_S_R`, draw opcode 0x77 (R214). -/
  | rect8TSR (c : Color) (pos : VertexWord) (tex : TexWord)
  /-- `RECT_16`, draw opcode 0x78 (R214). -/
  | rect16 (c : Color) (pos : VertexWord)
  /-- `RECT_16_R`, draw opcode 0x79 (R214). -/
  | rect16R (c : Color) (pos : VertexWord)
  /-- `RECT_16_S`, draw opcode 0x7A (R214). -/
  | rect16S (c : Color) (pos : VertexWord)
  /-- `RECT_16_S_R`, draw opcode 0x7B (R214). -/
  | rect16SR (c : Color) (pos : VertexWord)
  /-- `RECT_16T`, draw opcode 0x7C (R214). -/
  | rect16T (c : Color) (pos : VertexWord) (tex : TexWord)
  /-- `RECT_16T_R`, draw opcode 0x7D (R214). -/
  | rect16TR (c : Color) (pos : VertexWord) (tex : TexWord)
  /-- `RECT_16T_S`, draw opcode 0x7E (R214). -/
  | rect16TS (c : Color) (pos : VertexWord) (tex : TexWord)
  /-- `RECT_16T_S_R`, draw opcode 0x7F (R214). -/
  | rect16TSR (c : Color) (pos : VertexWord) (tex : TexWord)
  /-- `COPY_VRAM_VRAM`, draw opcode 0x80 (R252). -/
  | copyVramVram (reserved : Color) (src dst size : PairWord)
  /-- `COPY_CPU_VRAM`, draw opcode 0xA0 (R244). -/
  | copyCpuVram (reserved : Color) (dst size : PairWord)
  /-- `COPY_VRAM_CPU`, draw opcode 0xC0 (R249). -/
  | copyVramCpu (reserved : Color) (src size : PairWord)
  /-- `SET_DRAW_MODE`, draw opcode 0xE1 (R163). -/
  | setDrawMode (param : BitVec 24)
  /-- `SET_TEX_WINDOW`, draw opcode 0xE2 (R164). -/
  | setTexWindow (param : BitVec 24)
  /-- `SET_CLIP_TL`, draw opcode 0xE3 (R165). -/
  | setClipTl (x y : BitVec 10)
  /-- `SET_CLIP_BR`, draw opcode 0xE4 (R166). -/
  | setClipBr (x y : BitVec 10)
  /-- `SET_OFFSET`, draw opcode 0xE5 (R167). -/
  | setOffset (x y : BitVec 11)
  /-- `SET_MASK`, draw opcode 0xE6 (R168). -/
  | setMask (setBit checkBit : Bool)
  /-- `UNKNOWN_03`: unknown draw opcodes 0x03 to 0x03 (41_gp0_immediate R169); `word` is the whole word. -/
  | unknown03 (word : Word)
  /-- `UNKNOWN_04_07`: unknown draw opcodes 0x04 to 0x07 (41_gp0_immediate R169); `word` is the whole word. -/
  | unknown04_07 (word : Word)
  /-- `UNKNOWN_08_0F`: unknown draw opcodes 0x08 to 0x0F (41_gp0_immediate R169); `word` is the whole word. -/
  | unknown08_0F (word : Word)
  /-- `UNKNOWN_10_17`: unknown draw opcodes 0x10 to 0x17 (41_gp0_immediate R169); `word` is the whole word. -/
  | unknown10_17 (word : Word)
  /-- `UNKNOWN_18_1B`: unknown draw opcodes 0x18 to 0x1B (41_gp0_immediate R169); `word` is the whole word. -/
  | unknown18_1B (word : Word)
  /-- `UNKNOWN_1C_1D`: unknown draw opcodes 0x1C to 0x1D (41_gp0_immediate R169); `word` is the whole word. -/
  | unknown1C_1D (word : Word)
  /-- `UNKNOWN_1E`: unknown draw opcodes 0x1E to 0x1E (41_gp0_immediate R169); `word` is the whole word. -/
  | unknown1E (word : Word)
  /-- `UNKNOWN_81`: unknown draw opcodes 0x81 to 0x81 (41_gp0_immediate R169); `word` is the whole word. -/
  | unknown81 (word : Word)
  /-- `UNKNOWN_82_83`: unknown draw opcodes 0x82 to 0x83 (41_gp0_immediate R169); `word` is the whole word. -/
  | unknown82_83 (word : Word)
  /-- `UNKNOWN_84_87`: unknown draw opcodes 0x84 to 0x87 (41_gp0_immediate R169); `word` is the whole word. -/
  | unknown84_87 (word : Word)
  /-- `UNKNOWN_88_8F`: unknown draw opcodes 0x88 to 0x8F (41_gp0_immediate R169); `word` is the whole word. -/
  | unknown88_8F (word : Word)
  /-- `UNKNOWN_90_9F`: unknown draw opcodes 0x90 to 0x9F (41_gp0_immediate R169); `word` is the whole word. -/
  | unknown90_9F (word : Word)
  /-- `UNKNOWN_A1`: unknown draw opcodes 0xA1 to 0xA1 (41_gp0_immediate R169); `word` is the whole word. -/
  | unknownA1 (word : Word)
  /-- `UNKNOWN_A2_A3`: unknown draw opcodes 0xA2 to 0xA3 (41_gp0_immediate R169); `word` is the whole word. -/
  | unknownA2_A3 (word : Word)
  /-- `UNKNOWN_A4_A7`: unknown draw opcodes 0xA4 to 0xA7 (41_gp0_immediate R169); `word` is the whole word. -/
  | unknownA4_A7 (word : Word)
  /-- `UNKNOWN_A8_AF`: unknown draw opcodes 0xA8 to 0xAF (41_gp0_immediate R169); `word` is the whole word. -/
  | unknownA8_AF (word : Word)
  /-- `UNKNOWN_B0_BF`: unknown draw opcodes 0xB0 to 0xBF (41_gp0_immediate R169); `word` is the whole word. -/
  | unknownB0_BF (word : Word)
  /-- `UNKNOWN_C1`: unknown draw opcodes 0xC1 to 0xC1 (41_gp0_immediate R169); `word` is the whole word. -/
  | unknownC1 (word : Word)
  /-- `UNKNOWN_C2_C3`: unknown draw opcodes 0xC2 to 0xC3 (41_gp0_immediate R169); `word` is the whole word. -/
  | unknownC2_C3 (word : Word)
  /-- `UNKNOWN_C4_C7`: unknown draw opcodes 0xC4 to 0xC7 (41_gp0_immediate R169); `word` is the whole word. -/
  | unknownC4_C7 (word : Word)
  /-- `UNKNOWN_C8_CF`: unknown draw opcodes 0xC8 to 0xCF (41_gp0_immediate R169); `word` is the whole word. -/
  | unknownC8_CF (word : Word)
  /-- `UNKNOWN_D0_DF`: unknown draw opcodes 0xD0 to 0xDF (41_gp0_immediate R169); `word` is the whole word. -/
  | unknownD0_DF (word : Word)
  /-- `UNKNOWN_E0`: unknown draw opcodes 0xE0 to 0xE0 (41_gp0_immediate R169); `word` is the whole word. -/
  | unknownE0 (word : Word)
  /-- `UNKNOWN_E7`: unknown draw opcodes 0xE7 to 0xE7 (41_gp0_immediate R169); `word` is the whole word. -/
  | unknownE7 (word : Word)
  /-- `UNKNOWN_E8_EF`: unknown draw opcodes 0xE8 to 0xEF (41_gp0_immediate R169); `word` is the whole word. -/
  | unknownE8_EF (word : Word)
  /-- `UNKNOWN_F0_FF`: unknown draw opcodes 0xF0 to 0xFF (41_gp0_immediate R169); `word` is the whole word. -/
  | unknownF0_FF (word : Word)
  /-- `RESET`, control opcode 0x00 (R281). -/
  | reset
  /-- `RESET_CMDBUF`, control opcode 0x01 (R282). `word` is the whole word. -/
  | resetCmdbuf (word : Word)
  /-- `ACK_IRQ`, control opcode 0x02 (R283). -/
  | ackIrq
  /-- `DISPLAY_ENABLE`, control opcode 0x03 (R284). -/
  | displayEnable (off : Bool)
  /-- `DMA_DIRECTION`, control opcode 0x04 (R285). -/
  | dmaDirection (dir : BitVec 2)
  /-- `DISPLAY_START`, control opcode 0x05 (R286). -/
  | displayStart (x : BitVec 10) (y : BitVec 9)
  /-- `H_RANGE`, control opcode 0x06 (R287). -/
  | hRange (x1 x2 : BitVec 12)
  /-- `V_RANGE`, control opcode 0x07 (R288). -/
  | vRange (y1 y2 : BitVec 10)
  /-- `DISPLAY_MODE`, control opcode 0x08 (R289). -/
  | displayMode (arg : BitVec 24)
  /-- `TEX_DISABLE_ALLOW`, control opcode 0x09 (R290). -/
  | texDisableAllow (allow : Bool)
  /-- `GP1_UNRECOGNIZED_0A`, control opcode 0x0A (R299). `word` is the whole word. -/
  | gp1Unrecognized0A (word : Word)
  /-- `GP1_UNRECOGNIZED_0B`, control opcode 0x0B (R299). `word` is the whole word. -/
  | gp1Unrecognized0B (word : Word)
  /-- `GP1_UNRECOGNIZED_0C`, control opcode 0x0C (R299). `word` is the whole word. -/
  | gp1Unrecognized0C (word : Word)
  /-- `GP1_UNRECOGNIZED_0D`, control opcode 0x0D (R299). `word` is the whole word. -/
  | gp1Unrecognized0D (word : Word)
  /-- `GP1_UNRECOGNIZED_0E`, control opcode 0x0E (R299). `word` is the whole word. -/
  | gp1Unrecognized0E (word : Word)
  /-- `GP1_UNRECOGNIZED_0F`, control opcode 0x0F (R299). `word` is the whole word. -/
  | gp1Unrecognized0F (word : Word)
  /-- `GET_INFO_NONE_0`, control opcodes 0x10 to 0x1F with index 0 (R298). -/
  | getInfoNone0
  /-- `GET_INFO_NONE_1`, control opcodes 0x10 to 0x1F with index 1 (R298). -/
  | getInfoNone1
  /-- `GET_INFO_TEX_WINDOW`, control opcodes 0x10 to 0x1F with index 2 (R292). -/
  | getInfoTexWindow
  /-- `GET_INFO_CLIP_TL`, control opcodes 0x10 to 0x1F with index 3 (R293). -/
  | getInfoClipTl
  /-- `GET_INFO_CLIP_BR`, control opcodes 0x10 to 0x1F with index 4 (R294). -/
  | getInfoClipBr
  /-- `GET_INFO_OFFSET`, control opcodes 0x10 to 0x1F with index 5 (R295). -/
  | getInfoOffset
  /-- `GET_INFO_NONE_6`, control opcodes 0x10 to 0x1F with index 6 (R298). -/
  | getInfoNone6
  /-- `GET_INFO_VERSION`, control opcodes 0x10 to 0x1F with index 7 (R296). -/
  | getInfoVersion
  /-- `GET_INFO_ZERO`, control opcodes 0x10 to 0x1F with index 8 (R297). -/
  | getInfoZero
  /-- `GET_INFO_NONE_9`, control opcodes 0x10 to 0x1F with index 9 (R298). -/
  | getInfoNone9
  /-- `GET_INFO_NONE_A`, control opcodes 0x10 to 0x1F with index 10 (R298). -/
  | getInfoNoneA
  /-- `GET_INFO_NONE_B`, control opcodes 0x10 to 0x1F with index 11 (R298). -/
  | getInfoNoneB
  /-- `GET_INFO_NONE_C`, control opcodes 0x10 to 0x1F with index 12 (R298). -/
  | getInfoNoneC
  /-- `GET_INFO_NONE_D`, control opcodes 0x10 to 0x1F with index 13 (R298). -/
  | getInfoNoneD
  /-- `GET_INFO_NONE_E`, control opcodes 0x10 to 0x1F with index 14 (R298). -/
  | getInfoNoneE
  /-- `GET_INFO_NONE_F`, control opcodes 0x10 to 0x1F with index 15 (R298). -/
  | getInfoNoneF
  /-- `GP1_UNRECOGNIZED_20_3F`, control opcodes 0x20 to 0x3F (R299); `word` is the whole word. -/
  | gp1Unrecognized20_3F (word : Word)
  /-- `ReadData`, a transaction without an encoding (R320). -/
  | readData
  /-- `ReadStatus`, a transaction without an encoding (R325). -/
  | readStatus
  /-- `Step`, a transaction without an encoding (R340). -/
  | step (cycles : Nat)
  /-- `BackendWrite`, a transaction without an encoding (R73). -/
  | backendWrite (x y : Int) (v : Half) (sm cm : Bool)
  deriving DecidableEq, Repr

end Sys2Proof
end

