-- ==== Sys2Proof/WellFormed.lean ====
section
/-! DEFINITION. Well-formed instructions: what the operand types do not already enforce. -/

namespace Sys2Proof

/-- `word` agrees with an opcode-table row's `match` on the row's `mask`. -/
def fitsRow (mask pattern word : Word) : Bool := word &&& mask == pattern

/-- A polyline's argument words fit the 16-word buffer, and there is at least one (30_encoding R98, 10_state R42). -/
def polylineFits (args : List Word) : Bool :=
  decide (1 ≤ args.length) && decide (args.length ≤ Config.argBufWords)

/-- The checks: an argument list has a length the buffer can hold; a row that carries its whole word carries a word
of that row. Every other operand is of a type all of whose values the encoding admits. -/
def Instr.wellFormed : Instr → Bool
  | .nop => true
  | .clearCache => true
  | .fillRect .. => true
  | .irqRequest => true
  | .polyF3 .. => true
  | .polyF3R .. => true
  | .polyF3S .. => true
  | .polyF3SR .. => true
  | .polyFT3 .. => true
  | .polyFT3R .. => true
  | .polyFT3S .. => true
  | .polyFT3SR .. => true
  | .polyF4 .. => true
  | .polyF4R .. => true
  | .polyF4S .. => true
  | .polyF4SR .. => true
  | .polyFT4 .. => true
  | .polyFT4R .. => true
  | .polyFT4S .. => true
  | .polyFT4SR .. => true
  | .polyG3 .. => true
  | .polyG3R .. => true
  | .polyG3S .. => true
  | .polyG3SR .. => true
  | .polyGT3 .. => true
  | .polyGT3R .. => true
  | .polyGT3S .. => true
  | .polyGT3SR .. => true
  | .polyG4 .. => true
  | .polyG4R .. => true
  | .polyG4S .. => true
  | .polyG4SR .. => true
  | .polyGT4 .. => true
  | .polyGT4R .. => true
  | .polyGT4S .. => true
  | .polyGT4SR .. => true
  | .lineF .. => true
  | .lineF41 .. => true
  | .lineFS .. => true
  | .lineFS43 .. => true
  | .lineF44 .. => true
  | .lineF45 .. => true
  | .lineFS46 .. => true
  | .lineFS47 .. => true
  | .plineF _ args => polylineFits args
  | .plineF49 _ args => polylineFits args
  | .plineFS _ args => polylineFits args
  | .plineFS4B _ args => polylineFits args
  | .plineF4C _ args => polylineFits args
  | .plineF4D _ args => polylineFits args
  | .plineFS4E _ args => polylineFits args
  | .plineFS4F _ args => polylineFits args
  | .lineG .. => true
  | .lineG51 .. => true
  | .lineGS .. => true
  | .lineGS53 .. => true
  | .lineG54 .. => true
  | .lineG55 .. => true
  | .lineGS56 .. => true
  | .lineGS57 .. => true
  | .plineG _ args => polylineFits args
  | .plineG59 _ args => polylineFits args
  | .plineGS _ args => polylineFits args
  | .plineGS5B _ args => polylineFits args
  | .plineG5C _ args => polylineFits args
  | .plineG5D _ args => polylineFits args
  | .plineGS5E _ args => polylineFits args
  | .plineGS5F _ args => polylineFits args
  | .rectV .. => true
  | .rectVR .. => true
  | .rectVS .. => true
  | .rectVSR .. => true
  | .rectVT .. => true
  | .rectVTR .. => true
  | .rectVTS .. => true
  | .rectVTSR .. => true
  | .rect1 .. => true
  | .rect1R .. => true
  | .rect1S .. => true
  | .rect1SR .. => true
  | .rect1T .. => true
  | .rect1TR .. => true
  | .rect1TS .. => true
  | .rect1TSR .. => true
  | .rect8 .. => true
  | .rect8R .. => true
  | .rect8S .. => true
  | .rect8SR .. => true
  | .rect8T .. => true
  | .rect8TR .. => true
  | .rect8TS .. => true
  | .rect8TSR .. => true
  | .rect16 .. => true
  | .rect16R .. => true
  | .rect16S .. => true
  | .rect16SR .. => true
  | .rect16T .. => true
  | .rect16TR .. => true
  | .rect16TS .. => true
  | .rect16TSR .. => true
  | .copyVramVram .. => true
  | .copyCpuVram .. => true
  | .copyVramCpu .. => true
  | .setDrawMode .. => true
  | .setTexWindow .. => true
  | .setClipTl .. => true
  | .setClipBr .. => true
  | .setOffset .. => true
  | .setMask .. => true
  | .unknown03 word => fitsRow 0xFF000000#32 0x03000000#32 word
  | .unknown04_07 word => fitsRow 0xFC000000#32 0x04000000#32 word
  | .unknown08_0F word => fitsRow 0xF8000000#32 0x08000000#32 word
  | .unknown10_17 word => fitsRow 0xF8000000#32 0x10000000#32 word
  | .unknown18_1B word => fitsRow 0xFC000000#32 0x18000000#32 word
  | .unknown1C_1D word => fitsRow 0xFE000000#32 0x1C000000#32 word
  | .unknown1E word => fitsRow 0xFF000000#32 0x1E000000#32 word
  | .unknown81 word => fitsRow 0xFF000000#32 0x81000000#32 word
  | .unknown82_83 word => fitsRow 0xFE000000#32 0x82000000#32 word
  | .unknown84_87 word => fitsRow 0xFC000000#32 0x84000000#32 word
  | .unknown88_8F word => fitsRow 0xF8000000#32 0x88000000#32 word
  | .unknown90_9F word => fitsRow 0xF0000000#32 0x90000000#32 word
  | .unknownA1 word => fitsRow 0xFF000000#32 0xA1000000#32 word
  | .unknownA2_A3 word => fitsRow 0xFE000000#32 0xA2000000#32 word
  | .unknownA4_A7 word => fitsRow 0xFC000000#32 0xA4000000#32 word
  | .unknownA8_AF word => fitsRow 0xF8000000#32 0xA8000000#32 word
  | .unknownB0_BF word => fitsRow 0xF0000000#32 0xB0000000#32 word
  | .unknownC1 word => fitsRow 0xFF000000#32 0xC1000000#32 word
  | .unknownC2_C3 word => fitsRow 0xFE000000#32 0xC2000000#32 word
  | .unknownC4_C7 word => fitsRow 0xFC000000#32 0xC4000000#32 word
  | .unknownC8_CF word => fitsRow 0xF8000000#32 0xC8000000#32 word
  | .unknownD0_DF word => fitsRow 0xF0000000#32 0xD0000000#32 word
  | .unknownE0 word => fitsRow 0xFF000000#32 0xE0000000#32 word
  | .unknownE7 word => fitsRow 0xFF000000#32 0xE7000000#32 word
  | .unknownE8_EF word => fitsRow 0xF8000000#32 0xE8000000#32 word
  | .unknownF0_FF word => fitsRow 0xF0000000#32 0xF0000000#32 word
  | .reset => true
  | .resetCmdbuf word => fitsRow 0x3F000000#32 0x01000000#32 word
  | .ackIrq => true
  | .displayEnable .. => true
  | .dmaDirection .. => true
  | .displayStart .. => true
  | .hRange .. => true
  | .vRange .. => true
  | .displayMode .. => true
  | .texDisableAllow .. => true
  | .gp1Unrecognized0A word => fitsRow 0x3F000000#32 0x0A000000#32 word
  | .gp1Unrecognized0B word => fitsRow 0x3F000000#32 0x0B000000#32 word
  | .gp1Unrecognized0C word => fitsRow 0x3F000000#32 0x0C000000#32 word
  | .gp1Unrecognized0D word => fitsRow 0x3F000000#32 0x0D000000#32 word
  | .gp1Unrecognized0E word => fitsRow 0x3F000000#32 0x0E000000#32 word
  | .gp1Unrecognized0F word => fitsRow 0x3F000000#32 0x0F000000#32 word
  | .getInfoNone0 => true
  | .getInfoNone1 => true
  | .getInfoTexWindow => true
  | .getInfoClipTl => true
  | .getInfoClipBr => true
  | .getInfoOffset => true
  | .getInfoNone6 => true
  | .getInfoVersion => true
  | .getInfoZero => true
  | .getInfoNone9 => true
  | .getInfoNoneA => true
  | .getInfoNoneB => true
  | .getInfoNoneC => true
  | .getInfoNoneD => true
  | .getInfoNoneE => true
  | .getInfoNoneF => true
  | .gp1Unrecognized20_3F word => fitsRow 0x20000000#32 0x20000000#32 word
  | .readData => true
  | .readStatus => true
  | .step .. => true
  | .backendWrite .. => true

end Sys2Proof
end

