-- ==== Sys2Proof/Decode.lean ====
section
/-! DEFINITION. The decoder, from words to instructions (30_encoding), and the encoder after it. -/

namespace Sys2Proof

/-- Why a run of transactions is no instruction. -/
inductive DecodeError where
  /-- nothing was given -/
  | empty
  /-- a command word with another number of argument words than its opcode takes (30_encoding R97 to R99) -/
  | wrongArgumentCount (op : Opcode) (given : Nat)
  /-- a transaction that is not part of any instruction, or two instructions in one run -/
  | notOneInstruction
  deriving DecidableEq, Repr

/-! ## Fields -/

/-- `op = word[31:24]` (30_encoding R91). -/
def opOf (w : Word) : Opcode := w.extractLsb' 24 8

/-- `param = word[23:0]`, and the colour of a COLOR word (30_encoding R91, R100). -/
def colorOf (w : Word) : Color := w.extractLsb' 0 24

/-- `op1 = word[29:24]` of a control word; bits 31:30 take no part (30_encoding R114). -/
def op1Of (w : Word) : BitVec 6 := w.extractLsb' 24 6

/-- `GET_INFO` index, `arg[3:0]` (30_encoding R116). -/
def infoIndexOf (w : Word) : BitVec 4 := w.extractLsb' 0 4

/-- Format VERTEX (30_encoding R101). -/
def vertexOf (w : Word) : VertexWord := ⟨w.extractLsb' 0 16, w.extractLsb' 16 16⟩

/-- Format TEXCOORD (30_encoding R102). -/
def texOf (w : Word) : TexWord := ⟨w.extractLsb' 0 8, w.extractLsb' 8 8, w.extractLsb' 16 16⟩

/-- Position and size words of the fill and the copies (30_encoding R105, R106). -/
def pairOf (w : Word) : PairWord := ⟨w.extractLsb' 0 16, w.extractLsb' 16 16⟩

/-! ## Classes and argument counts -/

/-- The class of an opcode that takes argument words; `none` for the immediate and the unknown classes
(30_encoding R93, 40_command_decoder R131). -/
def kindOf (op : Opcode) : Option DecKind :=
  if op = 0x02#8 then some .fill
  else if op.extractLsb' 5 3 = 1#3 then some .polygon
  else if op.extractLsb' 5 3 = 2#3 then some .line
  else if op.extractLsb' 5 3 = 3#3 then some .rect
  else if op = 0x80#8 then some .copyVramVram
  else if op = 0xA0#8 then some .copyCpuVram
  else if op = 0xC0#8 then some .copyVramCpu
  else none

/-- `ArgCount(op)` (40_command_decoder R140); 0 for the single-word classes. -/
def argCount (op : Opcode) : Nat :=
  match kindOf op with
  | some .fill => 2
  | some .polygon =>
    let v := if op.getLsbD 3 then 4 else 3
    let t := if op.getLsbD 2 then 1 else 0
    let g := if op.getLsbD 4 then 1 else 0
    v * (1 + t) + g * (v - 1)
  | some .line => if op.getLsbD 3 then Config.argBufWords else 2 + (if op.getLsbD 4 then 1 else 0)
  | some .rect => 1 + (if op.getLsbD 2 then 1 else 0) + (if op.extractLsb' 3 2 = 0#2 then 1 else 0)
  | some .copyVramVram => 3
  | some .copyCpuVram => 2
  | some .copyVramCpu => 2
  | none => 0

/-! ## Argument lists of each shape -/

/-- Word order of this shape (42_primitives R199). -/
def takeFlat3 (k : VertexWord → VertexWord → VertexWord → Instr) (op : Opcode) : List Word → Except DecodeError Instr
  | [v0, v1, v2] => .ok (k (vertexOf v0) (vertexOf v1) (vertexOf v2))
  | args => .error (.wrongArgumentCount op args.length)

/-- Word order of this shape (42_primitives R199). -/
def takeFlatTex3 (k : VertexWord → TexWord → VertexWord → TexWord → VertexWord → TexWord → Instr) (op : Opcode) : List Word → Except DecodeError Instr
  | [v0, t0, v1, t1, v2, t2] => .ok (k (vertexOf v0) (texOf t0) (vertexOf v1) (texOf t1) (vertexOf v2) (texOf t2))
  | args => .error (.wrongArgumentCount op args.length)

/-- Word order of this shape (42_primitives R199). -/
def takeFlat4 (k : VertexWord → VertexWord → VertexWord → VertexWord → Instr) (op : Opcode) : List Word → Except DecodeError Instr
  | [v0, v1, v2, v3] => .ok (k (vertexOf v0) (vertexOf v1) (vertexOf v2) (vertexOf v3))
  | args => .error (.wrongArgumentCount op args.length)

/-- Word order of this shape (42_primitives R199). -/
def takeFlatTex4 (k : VertexWord → TexWord → VertexWord → TexWord → VertexWord → TexWord → VertexWord → TexWord → Instr) (op : Opcode) : List Word → Except DecodeError Instr
  | [v0, t0, v1, t1, v2, t2, v3, t3] => .ok (k (vertexOf v0) (texOf t0) (vertexOf v1) (texOf t1) (vertexOf v2) (texOf t2) (vertexOf v3) (texOf t3))
  | args => .error (.wrongArgumentCount op args.length)

/-- Word order of this shape (42_primitives R199). -/
def takeGouraud3 (k : VertexWord → Color → VertexWord → Color → VertexWord → Instr) (op : Opcode) : List Word → Except DecodeError Instr
  | [v0, c1, v1, c2, v2] => .ok (k (vertexOf v0) (colorOf c1) (vertexOf v1) (colorOf c2) (vertexOf v2))
  | args => .error (.wrongArgumentCount op args.length)

/-- Word order of this shape (42_primitives R199). -/
def takeGouraudTex3 (k : VertexWord → TexWord → Color → VertexWord → TexWord → Color → VertexWord → TexWord → Instr) (op : Opcode) : List Word → Except DecodeError Instr
  | [v0, t0, c1, v1, t1, c2, v2, t2] => .ok (k (vertexOf v0) (texOf t0) (colorOf c1) (vertexOf v1) (texOf t1) (colorOf c2) (vertexOf v2) (texOf t2))
  | args => .error (.wrongArgumentCount op args.length)

/-- Word order of this shape (42_primitives R199). -/
def takeGouraud4 (k : VertexWord → Color → VertexWord → Color → VertexWord → Color → VertexWord → Instr) (op : Opcode) : List Word → Except DecodeError Instr
  | [v0, c1, v1, c2, v2, c3, v3] => .ok (k (vertexOf v0) (colorOf c1) (vertexOf v1) (colorOf c2) (vertexOf v2) (colorOf c3) (vertexOf v3))
  | args => .error (.wrongArgumentCount op args.length)

/-- Word order of this shape (42_primitives R199). -/
def takeGouraudTex4 (k : VertexWord → TexWord → Color → VertexWord → TexWord → Color → VertexWord → TexWord → Color → VertexWord → TexWord → Instr) (op : Opcode) : List Word → Except DecodeError Instr
  | [v0, t0, c1, v1, t1, c2, v2, t2, c3, v3, t3] => .ok (k (vertexOf v0) (texOf t0) (colorOf c1) (vertexOf v1) (texOf t1) (colorOf c2) (vertexOf v2) (texOf t2) (colorOf c3) (vertexOf v3) (texOf t3))
  | args => .error (.wrongArgumentCount op args.length)

/-- Word order of this shape (42_primitives R211). -/
def takeRectSized (k : VertexWord → VertexWord → Instr) (op : Opcode) : List Word → Except DecodeError Instr
  | [pos, size] => .ok (k (vertexOf pos) (vertexOf size))
  | args => .error (.wrongArgumentCount op args.length)

/-- Word order of this shape (42_primitives R211). -/
def takeRectTexSized (k : VertexWord → TexWord → VertexWord → Instr) (op : Opcode) : List Word → Except DecodeError Instr
  | [pos, tex, size] => .ok (k (vertexOf pos) (texOf tex) (vertexOf size))
  | args => .error (.wrongArgumentCount op args.length)

/-- Word order of this shape (42_primitives R211). -/
def takeRect (k : VertexWord → Instr) (op : Opcode) : List Word → Except DecodeError Instr
  | [pos] => .ok (k (vertexOf pos))
  | args => .error (.wrongArgumentCount op args.length)

/-- Word order of this shape (42_primitives R211). -/
def takeRectTex (k : VertexWord → TexWord → Instr) (op : Opcode) : List Word → Except DecodeError Instr
  | [pos, tex] => .ok (k (vertexOf pos) (texOf tex))
  | args => .error (.wrongArgumentCount op args.length)

/-- Word order of this shape (42_primitives R205). -/
def takeLineFlat (k : VertexWord → VertexWord → Instr) (op : Opcode) : List Word → Except DecodeError Instr
  | [v0, v1] => .ok (k (vertexOf v0) (vertexOf v1))
  | args => .error (.wrongArgumentCount op args.length)

/-- Word order of this shape (42_primitives R205). -/
def takeLineGouraud (k : VertexWord → Color → VertexWord → Instr) (op : Opcode) : List Word → Except DecodeError Instr
  | [v0, c1, v1] => .ok (k (vertexOf v0) (colorOf c1) (vertexOf v1))
  | args => .error (.wrongArgumentCount op args.length)

/-- Two half-word pairs (30_encoding R105, R106). -/
def takePairs2 (k : PairWord → PairWord → Instr) (op : Opcode) : List Word → Except DecodeError Instr
  | [src, size] => .ok (k (pairOf src) (pairOf size))
  | args => .error (.wrongArgumentCount op args.length)

/-- Three half-word pairs (30_encoding R106). -/
def takePairs3 (k : PairWord → PairWord → PairWord → Instr) (op : Opcode) : List Word → Except DecodeError Instr
  | [src, dst, size] => .ok (k (pairOf src) (pairOf dst) (pairOf size))
  | args => .error (.wrongArgumentCount op args.length)

/-- A polyline's arguments are the words that arrived, the terminator among them (42_primitives R206). -/
def takePolyline (k : List Word → Instr) (op : Opcode) (args : List Word) : Except DecodeError Instr :=
  if polylineFits args then .ok (k args) else .error (.wrongArgumentCount op args.length)

/-! ## The draw port -/

/-- The 32 polygon opcodes (30_encoding R94, 42_primitives R203), by `op[4:0]`. -/
def decodePolygon (op : Opcode) (c : Color) (args : List Word) : Except DecodeError Instr :=
  match (op.extractLsb' 0 5).toNat with
  | 0x00 => takeFlat3 (.polyF3 c) op args
  | 0x01 => takeFlat3 (.polyF3R c) op args
  | 0x02 => takeFlat3 (.polyF3S c) op args
  | 0x03 => takeFlat3 (.polyF3SR c) op args
  | 0x04 => takeFlatTex3 (.polyFT3 c) op args
  | 0x05 => takeFlatTex3 (.polyFT3R c) op args
  | 0x06 => takeFlatTex3 (.polyFT3S c) op args
  | 0x07 => takeFlatTex3 (.polyFT3SR c) op args
  | 0x08 => takeFlat4 (.polyF4 c) op args
  | 0x09 => takeFlat4 (.polyF4R c) op args
  | 0x0A => takeFlat4 (.polyF4S c) op args
  | 0x0B => takeFlat4 (.polyF4SR c) op args
  | 0x0C => takeFlatTex4 (.polyFT4 c) op args
  | 0x0D => takeFlatTex4 (.polyFT4R c) op args
  | 0x0E => takeFlatTex4 (.polyFT4S c) op args
  | 0x0F => takeFlatTex4 (.polyFT4SR c) op args
  | 0x10 => takeGouraud3 (.polyG3 c) op args
  | 0x11 => takeGouraud3 (.polyG3R c) op args
  | 0x12 => takeGouraud3 (.polyG3S c) op args
  | 0x13 => takeGouraud3 (.polyG3SR c) op args
  | 0x14 => takeGouraudTex3 (.polyGT3 c) op args
  | 0x15 => takeGouraudTex3 (.polyGT3R c) op args
  | 0x16 => takeGouraudTex3 (.polyGT3S c) op args
  | 0x17 => takeGouraudTex3 (.polyGT3SR c) op args
  | 0x18 => takeGouraud4 (.polyG4 c) op args
  | 0x19 => takeGouraud4 (.polyG4R c) op args
  | 0x1A => takeGouraud4 (.polyG4S c) op args
  | 0x1B => takeGouraud4 (.polyG4SR c) op args
  | 0x1C => takeGouraudTex4 (.polyGT4 c) op args
  | 0x1D => takeGouraudTex4 (.polyGT4R c) op args
  | 0x1E => takeGouraudTex4 (.polyGT4S c) op args
  | _ => takeGouraudTex4 (.polyGT4SR c) op args

/-- The 32 line opcodes (30_encoding R95, 42_primitives R210), by `op[4:0]`. -/
def decodeLine (op : Opcode) (c : Color) (args : List Word) : Except DecodeError Instr :=
  match (op.extractLsb' 0 5).toNat with
  | 0x00 => takeLineFlat (.lineF c) op args
  | 0x01 => takeLineFlat (.lineF41 c) op args
  | 0x02 => takeLineFlat (.lineFS c) op args
  | 0x03 => takeLineFlat (.lineFS43 c) op args
  | 0x04 => takeLineFlat (.lineF44 c) op args
  | 0x05 => takeLineFlat (.lineF45 c) op args
  | 0x06 => takeLineFlat (.lineFS46 c) op args
  | 0x07 => takeLineFlat (.lineFS47 c) op args
  | 0x08 => takePolyline (.plineF c) op args
  | 0x09 => takePolyline (.plineF49 c) op args
  | 0x0A => takePolyline (.plineFS c) op args
  | 0x0B => takePolyline (.plineFS4B c) op args
  | 0x0C => takePolyline (.plineF4C c) op args
  | 0x0D => takePolyline (.plineF4D c) op args
  | 0x0E => takePolyline (.plineFS4E c) op args
  | 0x0F => takePolyline (.plineFS4F c) op args
  | 0x10 => takeLineGouraud (.lineG c) op args
  | 0x11 => takeLineGouraud (.lineG51 c) op args
  | 0x12 => takeLineGouraud (.lineGS c) op args
  | 0x13 => takeLineGouraud (.lineGS53 c) op args
  | 0x14 => takeLineGouraud (.lineG54 c) op args
  | 0x15 => takeLineGouraud (.lineG55 c) op args
  | 0x16 => takeLineGouraud (.lineGS56 c) op args
  | 0x17 => takeLineGouraud (.lineGS57 c) op args
  | 0x18 => takePolyline (.plineG c) op args
  | 0x19 => takePolyline (.plineG59 c) op args
  | 0x1A => takePolyline (.plineGS c) op args
  | 0x1B => takePolyline (.plineGS5B c) op args
  | 0x1C => takePolyline (.plineG5C c) op args
  | 0x1D => takePolyline (.plineG5D c) op args
  | 0x1E => takePolyline (.plineGS5E c) op args
  | _ => takePolyline (.plineGS5F c) op args

/-- The 32 rect opcodes (30_encoding R96, 42_primitives R216), by `op[4:0]`. -/
def decodeRect (op : Opcode) (c : Color) (args : List Word) : Except DecodeError Instr :=
  match (op.extractLsb' 0 5).toNat with
  | 0x00 => takeRectSized (.rectV c) op args
  | 0x01 => takeRectSized (.rectVR c) op args
  | 0x02 => takeRectSized (.rectVS c) op args
  | 0x03 => takeRectSized (.rectVSR c) op args
  | 0x04 => takeRectTexSized (.rectVT c) op args
  | 0x05 => takeRectTexSized (.rectVTR c) op args
  | 0x06 => takeRectTexSized (.rectVTS c) op args
  | 0x07 => takeRectTexSized (.rectVTSR c) op args
  | 0x08 => takeRect (.rect1 c) op args
  | 0x09 => takeRect (.rect1R c) op args
  | 0x0A => takeRect (.rect1S c) op args
  | 0x0B => takeRect (.rect1SR c) op args
  | 0x0C => takeRectTex (.rect1T c) op args
  | 0x0D => takeRectTex (.rect1TR c) op args
  | 0x0E => takeRectTex (.rect1TS c) op args
  | 0x0F => takeRectTex (.rect1TSR c) op args
  | 0x10 => takeRect (.rect8 c) op args
  | 0x11 => takeRect (.rect8R c) op args
  | 0x12 => takeRect (.rect8S c) op args
  | 0x13 => takeRect (.rect8SR c) op args
  | 0x14 => takeRectTex (.rect8T c) op args
  | 0x15 => takeRectTex (.rect8TR c) op args
  | 0x16 => takeRectTex (.rect8TS c) op args
  | 0x17 => takeRectTex (.rect8TSR c) op args
  | 0x18 => takeRect (.rect16 c) op args
  | 0x19 => takeRect (.rect16R c) op args
  | 0x1A => takeRect (.rect16S c) op args
  | 0x1B => takeRect (.rect16SR c) op args
  | 0x1C => takeRectTex (.rect16T c) op args
  | 0x1D => takeRectTex (.rect16TR c) op args
  | 0x1E => takeRectTex (.rect16TS c) op args
  | _ => takeRectTex (.rect16TSR c) op args

/-- The 147 unknown opcodes, by the rows of the table (30_encoding R118). -/
def decodeUnknown (op : Opcode) (w : Word) : Instr :=
  if op &&& 0xFF#8 = 0x03#8 then .unknown03 w else
  if op &&& 0xFC#8 = 0x04#8 then .unknown04_07 w else
  if op &&& 0xF8#8 = 0x08#8 then .unknown08_0F w else
  if op &&& 0xF8#8 = 0x10#8 then .unknown10_17 w else
  if op &&& 0xFC#8 = 0x18#8 then .unknown18_1B w else
  if op &&& 0xFE#8 = 0x1C#8 then .unknown1C_1D w else
  if op &&& 0xFF#8 = 0x1E#8 then .unknown1E w else
  if op &&& 0xFF#8 = 0x81#8 then .unknown81 w else
  if op &&& 0xFE#8 = 0x82#8 then .unknown82_83 w else
  if op &&& 0xFC#8 = 0x84#8 then .unknown84_87 w else
  if op &&& 0xF8#8 = 0x88#8 then .unknown88_8F w else
  if op &&& 0xF0#8 = 0x90#8 then .unknown90_9F w else
  if op &&& 0xFF#8 = 0xA1#8 then .unknownA1 w else
  if op &&& 0xFE#8 = 0xA2#8 then .unknownA2_A3 w else
  if op &&& 0xFC#8 = 0xA4#8 then .unknownA4_A7 w else
  if op &&& 0xF8#8 = 0xA8#8 then .unknownA8_AF w else
  if op &&& 0xF0#8 = 0xB0#8 then .unknownB0_BF w else
  if op &&& 0xFF#8 = 0xC1#8 then .unknownC1 w else
  if op &&& 0xFE#8 = 0xC2#8 then .unknownC2_C3 w else
  if op &&& 0xFC#8 = 0xC4#8 then .unknownC4_C7 w else
  if op &&& 0xF8#8 = 0xC8#8 then .unknownC8_CF w else
  if op &&& 0xF0#8 = 0xD0#8 then .unknownD0_DF w else
  if op &&& 0xFF#8 = 0xE0#8 then .unknownE0 w else
  if op &&& 0xFF#8 = 0xE7#8 then .unknownE7 w else
  if op &&& 0xF8#8 = 0xE8#8 then .unknownE8_EF w else
  .unknownF0_FF w

/-- The single-word draw commands and the unknown class (30_encoding R93, R108 to R112). -/
def decodeImmediate (w : Word) : Instr :=
  match (opOf w).toNat with
  | 0x00 => .nop
  | 0x01 => .clearCache
  | 0x1F => .irqRequest
  | 0xE1 => .setDrawMode (w.extractLsb' 0 24)
  | 0xE2 => .setTexWindow (w.extractLsb' 0 24)
  | 0xE3 => .setClipTl (w.extractLsb' 0 10) (w.extractLsb' 10 10)
  | 0xE4 => .setClipBr (w.extractLsb' 0 10) (w.extractLsb' 10 10)
  | 0xE5 => .setOffset (w.extractLsb' 0 11) (w.extractLsb' 11 11)
  | 0xE6 => .setMask (w.getLsbD 0) (w.getLsbD 1)
  | _ => decodeUnknown (opOf w) w

/-- A draw command from its command word and its argument words. -/
def decodeGp0 (w : Word) (args : List Word) : Except DecodeError Instr :=
  match kindOf (opOf w) with
  | some .fill => takePairs2 (.fillRect (colorOf w)) (opOf w) args
  | some .polygon => decodePolygon (opOf w) (colorOf w) args
  | some .line => decodeLine (opOf w) (colorOf w) args
  | some .rect => decodeRect (opOf w) (colorOf w) args
  | some .copyVramVram => takePairs3 (.copyVramVram (colorOf w)) (opOf w) args
  | some .copyCpuVram => takePairs2 (.copyCpuVram (colorOf w)) (opOf w) args
  | some .copyVramCpu => takePairs2 (.copyVramCpu (colorOf w)) (opOf w) args
  | none =>
    match args with
    | [] => .ok (decodeImmediate w)
    | _ => .error (.wrongArgumentCount (opOf w) args.length)

/-! ## The control port -/

/-- The sub-query of a `GET_INFO` word (30_encoding R117). -/
def decodeGetInfo (w : Word) : Instr :=
  match (infoIndexOf w).toNat with
  | 0x0 => .getInfoNone0
  | 0x1 => .getInfoNone1
  | 0x2 => .getInfoTexWindow
  | 0x3 => .getInfoClipTl
  | 0x4 => .getInfoClipBr
  | 0x5 => .getInfoOffset
  | 0x6 => .getInfoNone6
  | 0x7 => .getInfoVersion
  | 0x8 => .getInfoZero
  | 0x9 => .getInfoNone9
  | 0xA => .getInfoNoneA
  | 0xB => .getInfoNoneB
  | 0xC => .getInfoNoneC
  | 0xD => .getInfoNoneD
  | 0xE => .getInfoNoneE
  | _ => .getInfoNoneF

/-- A control-port word: every word is a row of the table (30_encoding R115, R116). -/
def decodeGp1 (w : Word) : Instr :=
  match (op1Of w).toNat with
  | 0x00 => .reset
  | 0x01 => .resetCmdbuf w
  | 0x02 => .ackIrq
  | 0x03 => .displayEnable (w.getLsbD 0)
  | 0x04 => .dmaDirection (w.extractLsb' 0 2)
  | 0x05 => .displayStart (w.extractLsb' 0 10) (w.extractLsb' 10 9)
  | 0x06 => .hRange (w.extractLsb' 0 12) (w.extractLsb' 12 12)
  | 0x07 => .vRange (w.extractLsb' 0 10) (w.extractLsb' 10 10)
  | 0x08 => .displayMode (w.extractLsb' 0 24)
  | 0x09 => .texDisableAllow (w.getLsbD 0)
  | 0x0A => .gp1Unrecognized0A w
  | 0x0B => .gp1Unrecognized0B w
  | 0x0C => .gp1Unrecognized0C w
  | 0x0D => .gp1Unrecognized0D w
  | 0x0E => .gp1Unrecognized0E w
  | 0x0F => .gp1Unrecognized0F w
  | _ => if (op1Of w).getLsbD 5 then .gp1Unrecognized20_3F w else decodeGetInfo w

/-! ## Transactions -/

/-- The word of a draw-port write (20_memory R61). -/
def drawWord : Transaction → Option Word
  | .write offset size w => if offset = 0 ∧ size = .word then some w else none
  | .read .. => none
  | .elapse .. => none
  | .backend .. => none

/-- The words of a run of draw-port writes. -/
def drawArguments : List Transaction → Option (List Word)
  | [] => some []
  | t :: rest =>
    match drawWord t, drawArguments rest with
    | some w, some ws => some (w :: ws)
    | _, _ => none

/-- The instruction of one transaction that is no draw-port write (20_memory R61). -/
def decodeOther : Transaction → Except DecodeError Instr
  | .write offset size w => if offset = 4 ∧ size = .word then .ok (decodeGp1 w) else .error .notOneInstruction
  | .read offset size =>
    if offset = 0 ∧ size = .word then .ok .readData
    else if offset = 4 ∧ size = .word then .ok .readStatus
    else .error .notOneInstruction
  | .elapse cycles => .ok (.step cycles)
  | .backend x y v sm cm => .ok (.backendWrite x y v sm cm)

/-- The instruction that a run of transactions stands for: a draw command with all its words, one control word, one
read, one step or one backend write. -/
def decode : List Transaction → Except DecodeError Instr
  | [] => .error .empty
  | t :: rest =>
    match drawWord t with
    | some w =>
      match drawArguments rest with
      | some args => decodeGp0 w args
      | none => .error .notOneInstruction
    | none =>
      match rest with
      | [] => decodeOther t
      | _ :: _ => .error .notOneInstruction

/-! ## Words of the opcode table -/

/-- `IsTerminator(word)` under the parameters `cfg` (30_encoding R113). -/
def isTerminator (cfg : Config.Params) (w : Word) : Bool := w == cfg.termA || w == cfg.termB

/-- A list of words up to and with its first terminator. -/
def throughTerminator (cfg : Config.Params) : List Word → List Word
  | [] => []
  | w :: rest => if isTerminator cfg w then [w] else w :: throughTerminator cfg rest

/-- Word `k` of an instruction given as one number: bits `32 k + 31` to `32 k`. -/
def tableWord (w k : Nat) : Word := BitVec.ofNat 32 (w >>> (32 * k))

/-- The argument words of the draw command in a number, as many as its opcode takes; a polyline's end at the first
terminator (40_command_decoder R135). -/
def tableArguments (cfg : Config.Params) (w : Nat) : List Word :=
  let op := opOf (tableWord w 0)
  let args := (List.range (argCount op)).map fun k => tableWord w (k + 1)
  if kindOf op = some .line && op.getLsbD 3 then throughTerminator cfg args else args

/-- The instruction in an opcode-table number of `nbits` bits, every bit above them 0: the number's words as written to
the DRAW port. A command word does not say to which port it is written; DESIGN CHOICE: log entry 3. -/
def decodeTableWord (nbits w : Nat) : Option Instr :=
  let w := w % 2 ^ nbits
  match decodeGp0 (tableWord w 0) (tableArguments Machine.defaultParams w) with
  | .ok i => some i
  | .error _ => none

/-! ## The encoder -/

/-- A VERTEX word (30_encoding R101). -/
def vertexWord (v : VertexWord) : Word := v.y ++ v.x

/-- A TEXCOORD word (30_encoding R102). -/
def texWord (t : TexWord) : Word := t.attr ++ (t.v ++ t.u)

/-- A position or size word (30_encoding R105, R106). -/
def pairWord (p : PairWord) : Word := p.hi ++ p.lo

/-- A COLOR argument word; its high byte is ignored and written 0 (30_encoding R100). -/
def colorWord (c : Color) : Word := 0#8 ++ c

/-- A draw command word (30_encoding R91). -/
def commandWord (op : Opcode) (param : Color) : Word := op ++ param

/-- A control word; bits 31:30 are ignored and written 0 (30_encoding R114). -/
def controlWord (op1 : BitVec 6) (arg : BitVec 24) : Word := 0#2 ++ (op1 ++ arg)

/-- The writes of a draw command: the command word, then its argument words. -/
def drawCommand (op : Opcode) (param : Color) (args : List Word) : List Transaction :=
  .write 0 .word (commandWord op param) :: args.map (Transaction.write 0 .word)

/-- The write of a control command. -/
def controlCommand (op1 : BitVec 6) (arg : BitVec 24) : List Transaction := [.write 4 .word (controlWord op1 arg)]

/-- The transactions that bring an instruction to the block; bits the spec marks ignored are written 0. -/
def encode : Instr → List Transaction
  | .nop => drawCommand 0x00#8 0#24 []
  | .clearCache => drawCommand 0x01#8 0#24 []
  | .fillRect c pos size => drawCommand 0x02#8 c [pairWord pos, pairWord size]
  | .irqRequest => drawCommand 0x1F#8 0#24 []
  | .polyF3 c0 v0 v1 v2 => drawCommand 0x20#8 c0 [vertexWord v0, vertexWord v1, vertexWord v2]
  | .polyF3R c0 v0 v1 v2 => drawCommand 0x21#8 c0 [vertexWord v0, vertexWord v1, vertexWord v2]
  | .polyF3S c0 v0 v1 v2 => drawCommand 0x22#8 c0 [vertexWord v0, vertexWord v1, vertexWord v2]
  | .polyF3SR c0 v0 v1 v2 => drawCommand 0x23#8 c0 [vertexWord v0, vertexWord v1, vertexWord v2]
  | .polyFT3 c0 v0 t0 v1 t1 v2 t2 => drawCommand 0x24#8 c0 [vertexWord v0, texWord t0, vertexWord v1, texWord t1, vertexWord v2, texWord t2]
  | .polyFT3R c0 v0 t0 v1 t1 v2 t2 => drawCommand 0x25#8 c0 [vertexWord v0, texWord t0, vertexWord v1, texWord t1, vertexWord v2, texWord t2]
  | .polyFT3S c0 v0 t0 v1 t1 v2 t2 => drawCommand 0x26#8 c0 [vertexWord v0, texWord t0, vertexWord v1, texWord t1, vertexWord v2, texWord t2]
  | .polyFT3SR c0 v0 t0 v1 t1 v2 t2 => drawCommand 0x27#8 c0 [vertexWord v0, texWord t0, vertexWord v1, texWord t1, vertexWord v2, texWord t2]
  | .polyF4 c0 v0 v1 v2 v3 => drawCommand 0x28#8 c0 [vertexWord v0, vertexWord v1, vertexWord v2, vertexWord v3]
  | .polyF4R c0 v0 v1 v2 v3 => drawCommand 0x29#8 c0 [vertexWord v0, vertexWord v1, vertexWord v2, vertexWord v3]
  | .polyF4S c0 v0 v1 v2 v3 => drawCommand 0x2A#8 c0 [vertexWord v0, vertexWord v1, vertexWord v2, vertexWord v3]
  | .polyF4SR c0 v0 v1 v2 v3 => drawCommand 0x2B#8 c0 [vertexWord v0, vertexWord v1, vertexWord v2, vertexWord v3]
  | .polyFT4 c0 v0 t0 v1 t1 v2 t2 v3 t3 => drawCommand 0x2C#8 c0 [vertexWord v0, texWord t0, vertexWord v1, texWord t1, vertexWord v2, texWord t2, vertexWord v3, texWord t3]
  | .polyFT4R c0 v0 t0 v1 t1 v2 t2 v3 t3 => drawCommand 0x2D#8 c0 [vertexWord v0, texWord t0, vertexWord v1, texWord t1, vertexWord v2, texWord t2, vertexWord v3, texWord t3]
  | .polyFT4S c0 v0 t0 v1 t1 v2 t2 v3 t3 => drawCommand 0x2E#8 c0 [vertexWord v0, texWord t0, vertexWord v1, texWord t1, vertexWord v2, texWord t2, vertexWord v3, texWord t3]
  | .polyFT4SR c0 v0 t0 v1 t1 v2 t2 v3 t3 => drawCommand 0x2F#8 c0 [vertexWord v0, texWord t0, vertexWord v1, texWord t1, vertexWord v2, texWord t2, vertexWord v3, texWord t3]
  | .polyG3 c0 v0 c1 v1 c2 v2 => drawCommand 0x30#8 c0 [vertexWord v0, colorWord c1, vertexWord v1, colorWord c2, vertexWord v2]
  | .polyG3R c0 v0 c1 v1 c2 v2 => drawCommand 0x31#8 c0 [vertexWord v0, colorWord c1, vertexWord v1, colorWord c2, vertexWord v2]
  | .polyG3S c0 v0 c1 v1 c2 v2 => drawCommand 0x32#8 c0 [vertexWord v0, colorWord c1, vertexWord v1, colorWord c2, vertexWord v2]
  | .polyG3SR c0 v0 c1 v1 c2 v2 => drawCommand 0x33#8 c0 [vertexWord v0, colorWord c1, vertexWord v1, colorWord c2, vertexWord v2]
  | .polyGT3 c0 v0 t0 c1 v1 t1 c2 v2 t2 => drawCommand 0x34#8 c0 [vertexWord v0, texWord t0, colorWord c1, vertexWord v1, texWord t1, colorWord c2, vertexWord v2, texWord t2]
  | .polyGT3R c0 v0 t0 c1 v1 t1 c2 v2 t2 => drawCommand 0x35#8 c0 [vertexWord v0, texWord t0, colorWord c1, vertexWord v1, texWord t1, colorWord c2, vertexWord v2, texWord t2]
  | .polyGT3S c0 v0 t0 c1 v1 t1 c2 v2 t2 => drawCommand 0x36#8 c0 [vertexWord v0, texWord t0, colorWord c1, vertexWord v1, texWord t1, colorWord c2, vertexWord v2, texWord t2]
  | .polyGT3SR c0 v0 t0 c1 v1 t1 c2 v2 t2 => drawCommand 0x37#8 c0 [vertexWord v0, texWord t0, colorWord c1, vertexWord v1, texWord t1, colorWord c2, vertexWord v2, texWord t2]
  | .polyG4 c0 v0 c1 v1 c2 v2 c3 v3 => drawCommand 0x38#8 c0 [vertexWord v0, colorWord c1, vertexWord v1, colorWord c2, vertexWord v2, colorWord c3, vertexWord v3]
  | .polyG4R c0 v0 c1 v1 c2 v2 c3 v3 => drawCommand 0x39#8 c0 [vertexWord v0, colorWord c1, vertexWord v1, colorWord c2, vertexWord v2, colorWord c3, vertexWord v3]
  | .polyG4S c0 v0 c1 v1 c2 v2 c3 v3 => drawCommand 0x3A#8 c0 [vertexWord v0, colorWord c1, vertexWord v1, colorWord c2, vertexWord v2, colorWord c3, vertexWord v3]
  | .polyG4SR c0 v0 c1 v1 c2 v2 c3 v3 => drawCommand 0x3B#8 c0 [vertexWord v0, colorWord c1, vertexWord v1, colorWord c2, vertexWord v2, colorWord c3, vertexWord v3]
  | .polyGT4 c0 v0 t0 c1 v1 t1 c2 v2 t2 c3 v3 t3 => drawCommand 0x3C#8 c0 [vertexWord v0, texWord t0, colorWord c1, vertexWord v1, texWord t1, colorWord c2, vertexWord v2, texWord t2, colorWord c3, vertexWord v3, texWord t3]
  | .polyGT4R c0 v0 t0 c1 v1 t1 c2 v2 t2 c3 v3 t3 => drawCommand 0x3D#8 c0 [vertexWord v0, texWord t0, colorWord c1, vertexWord v1, texWord t1, colorWord c2, vertexWord v2, texWord t2, colorWord c3, vertexWord v3, texWord t3]
  | .polyGT4S c0 v0 t0 c1 v1 t1 c2 v2 t2 c3 v3 t3 => drawCommand 0x3E#8 c0 [vertexWord v0, texWord t0, colorWord c1, vertexWord v1, texWord t1, colorWord c2, vertexWord v2, texWord t2, colorWord c3, vertexWord v3, texWord t3]
  | .polyGT4SR c0 v0 t0 c1 v1 t1 c2 v2 t2 c3 v3 t3 => drawCommand 0x3F#8 c0 [vertexWord v0, texWord t0, colorWord c1, vertexWord v1, texWord t1, colorWord c2, vertexWord v2, texWord t2, colorWord c3, vertexWord v3, texWord t3]
  | .lineF c0 v0 v1 => drawCommand 0x40#8 c0 [vertexWord v0, vertexWord v1]
  | .lineF41 c0 v0 v1 => drawCommand 0x41#8 c0 [vertexWord v0, vertexWord v1]
  | .lineFS c0 v0 v1 => drawCommand 0x42#8 c0 [vertexWord v0, vertexWord v1]
  | .lineFS43 c0 v0 v1 => drawCommand 0x43#8 c0 [vertexWord v0, vertexWord v1]
  | .lineF44 c0 v0 v1 => drawCommand 0x44#8 c0 [vertexWord v0, vertexWord v1]
  | .lineF45 c0 v0 v1 => drawCommand 0x45#8 c0 [vertexWord v0, vertexWord v1]
  | .lineFS46 c0 v0 v1 => drawCommand 0x46#8 c0 [vertexWord v0, vertexWord v1]
  | .lineFS47 c0 v0 v1 => drawCommand 0x47#8 c0 [vertexWord v0, vertexWord v1]
  | .plineF c0 args => drawCommand 0x48#8 c0 args
  | .plineF49 c0 args => drawCommand 0x49#8 c0 args
  | .plineFS c0 args => drawCommand 0x4A#8 c0 args
  | .plineFS4B c0 args => drawCommand 0x4B#8 c0 args
  | .plineF4C c0 args => drawCommand 0x4C#8 c0 args
  | .plineF4D c0 args => drawCommand 0x4D#8 c0 args
  | .plineFS4E c0 args => drawCommand 0x4E#8 c0 args
  | .plineFS4F c0 args => drawCommand 0x4F#8 c0 args
  | .lineG c0 v0 c1 v1 => drawCommand 0x50#8 c0 [vertexWord v0, colorWord c1, vertexWord v1]
  | .lineG51 c0 v0 c1 v1 => drawCommand 0x51#8 c0 [vertexWord v0, colorWord c1, vertexWord v1]
  | .lineGS c0 v0 c1 v1 => drawCommand 0x52#8 c0 [vertexWord v0, colorWord c1, vertexWord v1]
  | .lineGS53 c0 v0 c1 v1 => drawCommand 0x53#8 c0 [vertexWord v0, colorWord c1, vertexWord v1]
  | .lineG54 c0 v0 c1 v1 => drawCommand 0x54#8 c0 [vertexWord v0, colorWord c1, vertexWord v1]
  | .lineG55 c0 v0 c1 v1 => drawCommand 0x55#8 c0 [vertexWord v0, colorWord c1, vertexWord v1]
  | .lineGS56 c0 v0 c1 v1 => drawCommand 0x56#8 c0 [vertexWord v0, colorWord c1, vertexWord v1]
  | .lineGS57 c0 v0 c1 v1 => drawCommand 0x57#8 c0 [vertexWord v0, colorWord c1, vertexWord v1]
  | .plineG c0 args => drawCommand 0x58#8 c0 args
  | .plineG59 c0 args => drawCommand 0x59#8 c0 args
  | .plineGS c0 args => drawCommand 0x5A#8 c0 args
  | .plineGS5B c0 args => drawCommand 0x5B#8 c0 args
  | .plineG5C c0 args => drawCommand 0x5C#8 c0 args
  | .plineG5D c0 args => drawCommand 0x5D#8 c0 args
  | .plineGS5E c0 args => drawCommand 0x5E#8 c0 args
  | .plineGS5F c0 args => drawCommand 0x5F#8 c0 args
  | .rectV c pos size => drawCommand 0x60#8 c [vertexWord pos, vertexWord size]
  | .rectVR c pos size => drawCommand 0x61#8 c [vertexWord pos, vertexWord size]
  | .rectVS c pos size => drawCommand 0x62#8 c [vertexWord pos, vertexWord size]
  | .rectVSR c pos size => drawCommand 0x63#8 c [vertexWord pos, vertexWord size]
  | .rectVT c pos tex size => drawCommand 0x64#8 c [vertexWord pos, texWord tex, vertexWord size]
  | .rectVTR c pos tex size => drawCommand 0x65#8 c [vertexWord pos, texWord tex, vertexWord size]
  | .rectVTS c pos tex size => drawCommand 0x66#8 c [vertexWord pos, texWord tex, vertexWord size]
  | .rectVTSR c pos tex size => drawCommand 0x67#8 c [vertexWord pos, texWord tex, vertexWord size]
  | .rect1 c pos => drawCommand 0x68#8 c [vertexWord pos]
  | .rect1R c pos => drawCommand 0x69#8 c [vertexWord pos]
  | .rect1S c pos => drawCommand 0x6A#8 c [vertexWord pos]
  | .rect1SR c pos => drawCommand 0x6B#8 c [vertexWord pos]
  | .rect1T c pos tex => drawCommand 0x6C#8 c [vertexWord pos, texWord tex]
  | .rect1TR c pos tex => drawCommand 0x6D#8 c [vertexWord pos, texWord tex]
  | .rect1TS c pos tex => drawCommand 0x6E#8 c [vertexWord pos, texWord tex]
  | .rect1TSR c pos tex => drawCommand 0x6F#8 c [vertexWord pos, texWord tex]
  | .rect8 c pos => drawCommand 0x70#8 c [vertexWord pos]
  | .rect8R c pos => drawCommand 0x71#8 c [vertexWord pos]
  | .rect8S c pos => drawCommand 0x72#8 c [vertexWord pos]
  | .rect8SR c pos => drawCommand 0x73#8 c [vertexWord pos]
  | .rect8T c pos tex => drawCommand 0x74#8 c [vertexWord pos, texWord tex]
  | .rect8TR c pos tex => drawCommand 0x75#8 c [vertexWord pos, texWord tex]
  | .rect8TS c pos tex => drawCommand 0x76#8 c [vertexWord pos, texWord tex]
  | .rect8TSR c pos tex => drawCommand 0x77#8 c [vertexWord pos, texWord tex]
  | .rect16 c pos => drawCommand 0x78#8 c [vertexWord pos]
  | .rect16R c pos => drawCommand 0x79#8 c [vertexWord pos]
  | .rect16S c pos => drawCommand 0x7A#8 c [vertexWord pos]
  | .rect16SR c pos => drawCommand 0x7B#8 c [vertexWord pos]
  | .rect16T c pos tex => drawCommand 0x7C#8 c [vertexWord pos, texWord tex]
  | .rect16TR c pos tex => drawCommand 0x7D#8 c [vertexWord pos, texWord tex]
  | .rect16TS c pos tex => drawCommand 0x7E#8 c [vertexWord pos, texWord tex]
  | .rect16TSR c pos tex => drawCommand 0x7F#8 c [vertexWord pos, texWord tex]
  | .copyVramVram reserved src dst size => drawCommand 0x80#8 reserved [pairWord src, pairWord dst, pairWord size]
  | .copyCpuVram reserved dst size => drawCommand 0xA0#8 reserved [pairWord dst, pairWord size]
  | .copyVramCpu reserved src size => drawCommand 0xC0#8 reserved [pairWord src, pairWord size]
  | .setDrawMode param => drawCommand 0xE1#8 param []
  | .setTexWindow param => drawCommand 0xE2#8 param []
  | .setClipTl x y => drawCommand 0xE3#8 (0#4 ++ (y ++ x)) []
  | .setClipBr x y => drawCommand 0xE4#8 (0#4 ++ (y ++ x)) []
  | .setOffset x y => drawCommand 0xE5#8 (0#2 ++ (y ++ x)) []
  | .setMask setBit checkBit => drawCommand 0xE6#8 (0#22 ++ (BitVec.ofBool checkBit ++ BitVec.ofBool setBit)) []
  | .unknown03 word => [.write 0 .word word]
  | .unknown04_07 word => [.write 0 .word word]
  | .unknown08_0F word => [.write 0 .word word]
  | .unknown10_17 word => [.write 0 .word word]
  | .unknown18_1B word => [.write 0 .word word]
  | .unknown1C_1D word => [.write 0 .word word]
  | .unknown1E word => [.write 0 .word word]
  | .unknown81 word => [.write 0 .word word]
  | .unknown82_83 word => [.write 0 .word word]
  | .unknown84_87 word => [.write 0 .word word]
  | .unknown88_8F word => [.write 0 .word word]
  | .unknown90_9F word => [.write 0 .word word]
  | .unknownA1 word => [.write 0 .word word]
  | .unknownA2_A3 word => [.write 0 .word word]
  | .unknownA4_A7 word => [.write 0 .word word]
  | .unknownA8_AF word => [.write 0 .word word]
  | .unknownB0_BF word => [.write 0 .word word]
  | .unknownC1 word => [.write 0 .word word]
  | .unknownC2_C3 word => [.write 0 .word word]
  | .unknownC4_C7 word => [.write 0 .word word]
  | .unknownC8_CF word => [.write 0 .word word]
  | .unknownD0_DF word => [.write 0 .word word]
  | .unknownE0 word => [.write 0 .word word]
  | .unknownE7 word => [.write 0 .word word]
  | .unknownE8_EF word => [.write 0 .word word]
  | .unknownF0_FF word => [.write 0 .word word]
  | .reset => controlCommand 0x00#6 0#24
  | .resetCmdbuf word => [.write 4 .word word]
  | .ackIrq => controlCommand 0x02#6 0#24
  | .displayEnable off => controlCommand 0x03#6 (0#23 ++ BitVec.ofBool off)
  | .dmaDirection dir => controlCommand 0x04#6 (0#22 ++ dir)
  | .displayStart x y => controlCommand 0x05#6 (0#5 ++ (y ++ x))
  | .hRange x1 x2 => controlCommand 0x06#6 (x2 ++ x1)
  | .vRange y1 y2 => controlCommand 0x07#6 (0#4 ++ (y2 ++ y1))
  | .displayMode arg => controlCommand 0x08#6 arg
  | .texDisableAllow allow => controlCommand 0x09#6 (0#23 ++ BitVec.ofBool allow)
  | .gp1Unrecognized0A word => [.write 4 .word word]
  | .gp1Unrecognized0B word => [.write 4 .word word]
  | .gp1Unrecognized0C word => [.write 4 .word word]
  | .gp1Unrecognized0D word => [.write 4 .word word]
  | .gp1Unrecognized0E word => [.write 4 .word word]
  | .gp1Unrecognized0F word => [.write 4 .word word]
  | .getInfoNone0 => controlCommand 0x10#6 0x000000#24
  | .getInfoNone1 => controlCommand 0x10#6 0x000001#24
  | .getInfoTexWindow => controlCommand 0x10#6 0x000002#24
  | .getInfoClipTl => controlCommand 0x10#6 0x000003#24
  | .getInfoClipBr => controlCommand 0x10#6 0x000004#24
  | .getInfoOffset => controlCommand 0x10#6 0x000005#24
  | .getInfoNone6 => controlCommand 0x10#6 0x000006#24
  | .getInfoVersion => controlCommand 0x10#6 0x000007#24
  | .getInfoZero => controlCommand 0x10#6 0x000008#24
  | .getInfoNone9 => controlCommand 0x10#6 0x000009#24
  | .getInfoNoneA => controlCommand 0x10#6 0x00000A#24
  | .getInfoNoneB => controlCommand 0x10#6 0x00000B#24
  | .getInfoNoneC => controlCommand 0x10#6 0x00000C#24
  | .getInfoNoneD => controlCommand 0x10#6 0x00000D#24
  | .getInfoNoneE => controlCommand 0x10#6 0x00000E#24
  | .getInfoNoneF => controlCommand 0x10#6 0x00000F#24
  | .gp1Unrecognized20_3F word => [.write 4 .word word]
  | .readData => [.read 0 .word]
  | .readStatus => [.read 4 .word]
  | .step cycles => [.elapse cycles]
  | .backendWrite x y v sm cm => [.backend x y v sm cm]

end Sys2Proof
end

