-- ==== Sys2Proof/Machine/Memory.lean ====
section
/-! DEFINITION. The bytes that hold VRAM (10_state R52): reading, writing, the canonical form, and the contents after
power-on. -/

namespace Sys2Proof.Machine

/-- VRAM as a list of (address, byte) pairs in canonical form (`Memory.wf`). Cell (x, y) lies at byte addresses
`2 (1024 y + x)`, bits 7:0, and the next one, bits 15:8. DESIGN CHOICE: log entry 8. -/
abbrev Memory := List Host.Cell

/-- What an address the list does not hold reads as: part of how the list stands for the bytes, and no claim about the
contents of VRAM after power-on, which are `powerOnVram`. DESIGN CHOICE: log entry 8. -/
def unlistedByte : Byte := 0#8

/-- One byte; an address the list does not hold reads as `unlistedByte`. -/
def Memory.readByte : Memory → Nat → Byte
  | [], _ => unlistedByte
  | (k, b) :: rest, a => if k = a then b else Memory.readByte rest a

/-- The list with (a, b) at its head, or without it where b is what an unlisted address reads as. -/
def Memory.push (a : Nat) (b : Byte) (rest : Memory) : Memory := if b = unlistedByte then rest else (a, b) :: rest

/-- Write one byte; keeps the canonical form. -/
def Memory.writeByte : Memory → Nat → Byte → Memory
  | [], a, b => Memory.push a b []
  | (k, v) :: rest, a, b =>
    if a < k then Memory.push a b ((k, v) :: rest)
    else if a = k then Memory.push a b rest
    else (k, v) :: Memory.writeByte rest a b

/-- Addresses rise strictly, starting above `low`, and no entry holds the unlisted byte. -/
def Memory.risingFrom : Nat → Memory → Bool
  | _, [] => true
  | low, (k, b) :: rest => decide (low ≤ k) && decide (b ≠ unlistedByte) && Memory.risingFrom (k + 1) rest

/-- The canonical form: strictly rising addresses inside the framebuffer's bytes, no entry equal to what an unlisted
address reads as. -/
def Memory.wf (m : Memory) : Bool :=
  Memory.risingFrom 0 m && m.all fun c => decide (c.1 < 2 * (Config.vramWidth * Config.vramHeight))

/-- The memory that holds the given bytes, a later pair for an address winning, pairs outside VRAM left out, and 0
wherever no pair says otherwise. -/
def Memory.ofBytes (bytes : List Host.Cell) : Memory :=
  bytes.foldl (fun m c => if c.1 < 2 * (Config.vramWidth * Config.vramHeight) then m.writeByte c.1 c.2 else m) []

/-- VRAM after power-on, `VRAM_POWER_ON`: any contents (10_state R52, 70_reset_and_hazards R399; log entry 7). -/
def powerOnVram : Memory := Memory.ofBytes Config.freeVramPowerOn

end Sys2Proof.Machine
end

