-- ==== Sys2Proof/Machine/State.lean ====
section
/-! DEFINITION. The state of the block as plain data (10_state), its outputs (00_scope R10, R11), the reasons a step
can stop, and the power-on state. -/

namespace Sys2Proof.Machine

/-! ## Register bank (10_state R20 to R37) -/

/-- The register bank: every control and status register (10_state R20). -/
structure RegisterBank where
  /-- R21, R22 -/
  drawMode : BitVec 24
  /-- R23 -/
  texWindow : BitVec 24
  /-- R24 -/
  setMask : Bool
  /-- R24 -/
  checkMask : Bool
  /-- R25 -/
  clipLeft : BitVec 10
  /-- R25 -/
  clipTop : BitVec 10
  /-- R26 -/
  clipRight : BitVec 10
  /-- R26 -/
  clipBottom : BitVec 10
  /-- R28, two's complement -/
  offX : BitVec 11
  /-- R28, two's complement -/
  offY : BitVec 11
  /-- R30 -/
  displayEnable : Bool
  /-- R31 -/
  dmaDir : BitVec 2
  /-- R32 -/
  dispStartX : BitVec 10
  /-- R32 -/
  dispStartY : BitVec 9
  /-- R33 -/
  hrangeX1 : BitVec 12
  /-- R33 -/
  hrangeX2 : BitVec 12
  /-- R34 -/
  vrangeY1 : BitVec 10
  /-- R34 -/
  vrangeY2 : BitVec 10
  /-- R35 -/
  dispMode : BitVec 24
  /-- R36 -/
  irqLatch : Bool
  /-- R37 -/
  texDisableAllowed : Bool
  deriving DecidableEq, Repr

/-- Every field 0: the register bank after either reset (10_state R53). -/
def RegisterBank.zero : RegisterBank where
  drawMode := 0#24
  texWindow := 0#24
  setMask := false
  checkMask := false
  clipLeft := 0#10
  clipTop := 0#10
  clipRight := 0#10
  clipBottom := 0#10
  offX := 0#11
  offY := 0#11
  displayEnable := false
  dmaDir := 0#2
  dispStartX := 0#10
  dispStartY := 0#9
  hrangeX1 := 0#12
  hrangeX2 := 0#12
  vrangeY1 := 0#10
  vrangeY2 := 0#10
  dispMode := 0#24
  irqLatch := false
  texDisableAllowed := false

/-! ## Command decoder (10_state R38 to R44) -/

/-- `dec_state` (10_state R39). -/
inductive DecState where
  | idle
  | accum
  | transfer
  deriving DecidableEq, Repr

/-- The CommandArgumentBuffer (10_state R38). -/
structure Decoder where
  /-- `dec_state`, R39 -/
  state : DecState
  /-- `dec_kind`, R44 -/
  kind : DecKind
  /-- `cmd_word`, R40 -/
  cmdWord : Word
  /-- `arg_buf`, R41 -/
  argBuf : Vector Word 16
  /-- `arg_len`, R42 -/
  argLen : Nat
  /-- `arg_expected`, R43 -/
  argExpected : Nat
  deriving DecidableEq, Repr

/-! ## Copy engine and read path (10_state R45 to R48) -/

/-- A transfer rectangle and the cursor inside it: `wr_*` (10_state R45) and `rd_*` (R46). -/
structure Cursor where
  x0 : BitVec 10
  y0 : BitVec 9
  w : Nat
  h : Nat
  cx : Nat
  cy : Nat
  deriving DecidableEq, Repr

/-- All six registers 0 (10_state R53). -/
def Cursor.zero : Cursor := ⟨0#10, 0#9, 0, 0, 0, 0⟩

/-- `read_mode` (10_state R47). -/
inductive ReadMode where
  | normal
  | vramTransfer
  | infoQuery
  deriving DecidableEq, Repr

/-! ## Timing (10_state R49, R50) -/

/-- The timing state, changed only by `Step`. -/
structure Timing where
  dot : Nat
  line : Nat
  frame : BitVec 32
  odd : Bool
  deriving DecidableEq, Repr

/-! ## Emission records (42_primitives R194, R196, R209, R219) -/

/-- Texture bit depth, one of 0, 4, 8, 16; 0 means untextured (42_primitives R194). -/
inductive Depth where
  | untextured
  | bits4
  | bits8
  | bits16
  deriving DecidableEq, Repr

/-- The flag set of a vertex (42_primitives R194). -/
structure PrimFlags where
  semi : Bool
  rawTex : Bool
  gouraud : Bool
  dither : Bool
  deriving DecidableEq, Repr

/-- The registers an emission carries as they were at dispatch (42_primitives R195). -/
structure Snapshot where
  texWindow : BitVec 24
  setMask : Bool
  checkMask : Bool
  deriving DecidableEq, Repr

/-- A colour at 8 bits a channel (42_primitives R192). -/
structure Rgb where
  r : Byte
  g : Byte
  b : Byte
  deriving DecidableEq, Repr

/-- What a primitive says of its texture: CLUT reference, page, depth (42_primitives R194). -/
structure Texture where
  clut : Half
  texpage : Half
  depth : Depth
  deriving DecidableEq, Repr

/-- A vertex record (42_primitives R194); positions are mathematical integers (D56). -/
structure Vertex where
  x : Int
  y : Int
  color : Rgb
  u : Byte
  v : Byte
  texture : Texture
  flags : PrimFlags
  snapshot : Snapshot
  deriving DecidableEq, Repr

/-- The decoded quad description of a rectangle (42_primitives R219). -/
structure RectQuad where
  x : Int
  y : Int
  w : Int
  h : Int
  color : Rgb
  u : Byte
  v : Byte
  texture : Texture
  flags : PrimFlags
  snapshot : Snapshot
  deriving DecidableEq, Repr

/-- One record of the emission stream (00_scope R10). -/
inductive Emission where
  | triangle (v0 v1 v2 : Vertex)
  | lineSegment (v0 v1 : Vertex)
  | rectQuad (q : RectQuad)
  deriving DecidableEq, Repr

/-! ## Diagnostics and results -/

/-- The kinds of a `Diag` event (00_scope R11). -/
inductive DiagKind where
  | unknownGp0Opcode
  | reservedFieldNonZero
  | copyBoundsAbort
  deriving DecidableEq, Repr

/-- One event of the diagnostic stream: a `Diag(kind, info)` (60_exceptions R363 to R365), or the `info` of a `Fatal`
(R371; log entry 10). -/
inductive DiagEvent where
  | diag (kind : DiagKind) (info : Word)
  | fatal (info : Word)
  deriving DecidableEq, Repr

/-- What a transaction returned to its agent (45_bus_reads R320, R325; 46_timing_engine R346). -/
inductive BusResult where
  /-- the word of `ReadData` -/
  | data (word : Word)
  /-- the word of `ReadStatus` -/
  | status (word : Word)
  /-- the `frame_complete` of `Step` -/
  | frameComplete (complete : Bool)
  deriving DecidableEq, Repr

/-! ## The state -/

/-- The block, its recorded outputs, the transactions it has still to take, and its parameters. -/
structure State where
  /-- RegisterBank, 10_state R20 -/
  bank : RegisterBank
  /-- CommandArgumentBuffer, 10_state R38 -/
  dec : Decoder
  /-- `wr_*`, 10_state R45 -/
  wr : Cursor
  /-- `rd_*`, 10_state R46 -/
  rd : Cursor
  /-- `read_mode`, 10_state R47 -/
  readMode : ReadMode
  /-- `read_latch`, 10_state R48 -/
  readLatch : Word
  /-- `dot`, `line`, `frame`, `odd`, 10_state R49, R50 -/
  timing : Timing
  /-- `fault`, 10_state R51 -/
  fault : Bool
  /-- VRAM, 10_state R52 -/
  vram : Memory
  /-- the emission stream, oldest first, 00_scope R10 -/
  emissions : List Emission
  /-- the diagnostic stream, oldest first, 00_scope R11 -/
  diags : List DiagEvent
  /-- the results of the transactions, oldest first. DESIGN CHOICE: log entry 9 -/
  results : List BusResult
  /-- the transactions not yet taken, oldest first, 00_scope R3. DESIGN CHOICE: log entry 1 -/
  pending : List Transaction
  /-- the OPEN parameters, 00_scope R5; no step changes them. DESIGN CHOICE: log entry 4 -/
  cfg : Config.Params
  deriving DecidableEq, Repr

/-- Why the machine stops with a fault. The spec's own fault is a bit of the state, `State.fault`. -/
inductive Fault where
  /-- Raised by the command decoder (Machine/Accept.lean) when the stored words are no command of the stored class: a
  state no run from reset reaches. Safe. Log entry 13. -/
  | decoderInconsistent
  deriving DecidableEq, Repr

/-- Why a transaction is refused. -/
inductive Refusal where
  /-- Raised by `exec` for an instruction without a meaning. Safe. No arm of this model raises it. -/
  | notModelled (mnemonic : String)
  /-- Raised by every transaction while `fault` is 1 (60_exceptions R362, D55: a model refuses them). Safe. -/
  | afterFatal
  /-- Raised by a bus access that is not a 32-bit access at offset 0 or 4 (20_memory R63, D3: a model refuses it).
  Safe. -/
  | portAccess
  deriving DecidableEq, Repr

/-- The decoder after power-on: idle, everything 0 (10_state R53). `dec_kind` is don't care (R44).
DESIGN CHOICE: `fill`, log entry 12. -/
def Decoder.powerOn : Decoder where
  state := .idle
  kind := .fill
  cmdWord := 0#32
  argBuf := Vector.replicate 16 0#32
  argLen := 0
  argExpected := 0

/-- The power-on state (70_reset_and_hazards R391, 10_state R53). VRAM holds unspecified values: a constant nothing is
known of (R399; log entry 7). -/
def State.reset : State where
  bank := RegisterBank.zero
  dec := Decoder.powerOn
  wr := Cursor.zero
  rd := Cursor.zero
  readMode := .normal
  readLatch := 0#32
  timing := ⟨0, 0, 0#32, false⟩
  fault := false
  vram := powerOnVram
  emissions := []
  diags := []
  results := []
  pending := []
  cfg := defaultParams

end Sys2Proof.Machine
end

