-- ==== Sys2Proof/Machine/Ops.lean ====
section
/-! DEFINITION. The named operations over the framebuffer's cells, the output streams and the decoder, and the one
fatal condition (60_exceptions R362). -/

namespace Sys2Proof.Machine

abbrev Result := Host.Outcome State Fault Refusal

/-! ## Cells of the framebuffer -/

/-- The byte address of the low byte of cell (x, y): twice the linear cell index `y * 1024 + x` (20_memory R68). -/
def cellAddress (x : BitVec 10) (y : BitVec 9) : Nat := 2 * (y.toNat * Config.vramWidth + x.toNat)

/-- `FbRead(x, y)` (00_scope R7). -/
def Memory.fbRead (m : Memory) (x : BitVec 10) (y : BitVec 9) : Half :=
  m.readByte (cellAddress x y + 1) ++ m.readByte (cellAddress x y)

/-- `FbWrite(x, y, v)`, unconditional (00_scope R7, 20_memory R70). -/
def Memory.fbWrite (m : Memory) (x : BitVec 10) (y : BitVec 9) (v : Half) : Memory :=
  (m.writeByte (cellAddress x y) (v.extractLsb' 0 8)).writeByte (cellAddress x y + 1) (v.extractLsb' 8 8)

/-- The value a masked write stores: bit 15 is the written bit 15 or `sm` (20_memory R69, 90_conflicts C5). -/
def maskedValue (v : Half) (sm : Bool) : Half := BitVec.ofBool (v.getLsbD 15 || sm) ++ v.extractLsb' 0 15

/-- `FbWriteMasked(x, y, v, sm, cm)` (20_memory R69). -/
def Memory.fbWriteMasked (m : Memory) (x : BitVec 10) (y : BitVec 9) (v : Half) (sm cm : Bool) : Memory :=
  if cm && (m.fbRead x y).getLsbD 15 then m else m.fbWrite x y (maskedValue v sm)

/-- Column `i` of a rectangle with left column `x0`, wrapped at 1024 (43_vram_copy R242). -/
def wrapX (x0 : BitVec 10) (i : Nat) : BitVec 10 := x0 + BitVec.ofNat 10 i

/-- Row `j` of a rectangle with top row `y0`, wrapped at 512 (43_vram_copy R242). -/
def wrapY (y0 : BitVec 9) (j : Nat) : BitVec 9 := y0 + BitVec.ofNat 9 j

/-- A cell the geometry backend reads for blending: the VRAM left by the last transaction, no effect
(20_memory R74). -/
def backendRead (s : State) (x : BitVec 10) (y : BitVec 9) : Half := s.vram.fbRead x y

/-! ## Updates of the state -/

/-- Replace the register bank. -/
def State.setBank (s : State) (b : RegisterBank) : State := { s with bank := b }

/-- Replace the decoder state. -/
def State.setDec (s : State) (d : Decoder) : State := { s with dec := d }

/-- Replace the write-transfer registers. -/
def State.setWr (s : State) (c : Cursor) : State := { s with wr := c }

/-- Replace the read-transfer registers. -/
def State.setRd (s : State) (c : Cursor) : State := { s with rd := c }

/-- Replace `read_mode`. -/
def State.setReadMode (s : State) (m : ReadMode) : State := { s with readMode := m }

/-- Replace `read_latch`. -/
def State.setReadLatch (s : State) (w : Word) : State := { s with readLatch := w }

/-- Replace the timing state. -/
def State.setTiming (s : State) (t : Timing) : State := { s with timing := t }

/-- Replace VRAM. -/
def State.setVram (s : State) (m : Memory) : State := { s with vram := m }

/-- Replace the transactions not yet taken. -/
def State.setPending (s : State) (ts : List Transaction) : State := { s with pending := ts }

/-- `Emit` of some records, in order (00_scope R10). -/
def State.emit (s : State) (es : List Emission) : State := { s with emissions := s.emissions ++ es }

/-- `Diag(kind, info)` (00_scope R11). -/
def State.diag (s : State) (k : DiagKind) (info : Word) : State := { s with diags := s.diags ++ [.diag k info] }

/-- Record what the transaction returns to its agent. -/
def State.answer (s : State) (r : BusResult) : State := { s with results := s.results ++ [r] }

/-- `raise Fatal(info)`: `fault <- 1`, no other state changes; the `info` goes to the diagnostic stream
(60_exceptions R362, R371; log entry 10). There is no return from it: only power-on clears `fault` (R372). -/
def State.raiseFatal (s : State) (info : Word) : State :=
  { s with fault := true, diags := s.diags ++ [.fatal info] }

/-! ## The decoder's clear -/

/-- The decoder with nothing pending, in `dec_state` `st`; `dec_kind` keeps its value
(40_command_decoder R136, 44_control_port R281, R282; log entry 12). -/
def Decoder.cleared (d : Decoder) (st : DecState) : Decoder where
  state := st
  kind := d.kind
  cmdWord := 0#32
  argBuf := Vector.replicate 16 0#32
  argLen := 0
  argExpected := 0

/-- The end of every dispatch: the buffer is cleared and the decoder enters `st` (40_command_decoder R136). -/
def State.dispatched (s : State) (st : DecState) : State := s.setDec (s.dec.cleared st)

/-! ## The fault gate -/

/-- A transaction's outcome: `t`, unless `fault` is 1, when it has no defined effect and is refused
(60_exceptions R362, D55). -/
def State.commit (s t : State) : Result := if s.fault then .refused .afterFatal else .next t

end Sys2Proof.Machine
end

