-- ==== Sys2Proof/Machine/Operands.lean ====
section
/-! DEFINITION. Operand forms and shared arithmetic of the commands (42_primitives R190 to R195, 43_vram_copy R241). -/

namespace Sys2Proof.Machine

/-- `sext_N(v)` of a half-word: its low `n` bits as a two's-complement integer (00_scope R7). -/
def sext (n : Nat) (v : Half) : Int := (v.setWidth n).toInt

/-- `To15(c)`: each channel truncated to its top 5 bits, bit 15 = 0 (42_primitives R190). -/
def to15 (c : Color) : Half := 0#1 ++ (c.extractLsb' 19 5 ++ (c.extractLsb' 11 5 ++ c.extractLsb' 3 5))

/-- `Rgb(c)` (42_primitives R192). -/
def rgbOf (c : Color) : Rgb := ⟨c.extractLsb' 0 8, c.extractLsb' 8 8, c.extractLsb' 16 8⟩

/-- The X of `Coord(word)`: the raw field plus the drawing offset at dispatch (42_primitives R191). -/
def coordX (s : State) (p : VertexWord) : Int := sext s.cfg.coordBits p.x + s.bank.offX.toInt

/-- The Y of `Coord(word)` (42_primitives R191). -/
def coordY (s : State) (p : VertexWord) : Int := sext s.cfg.coordBits p.y + s.bank.offY.toInt

/-- `DepthOf(code)` (42_primitives, before R197). -/
def depthOf (code : BitVec 2) : Depth :=
  if code = 0#2 then .bits4 else if code = 1#2 then .bits8 else .bits16

/-- The texture fields of an untextured primitive (42_primitives R194). -/
def noTexture : Texture := ⟨0#16, 0#16, .untextured⟩

/-- The texture fields of a textured polygon: depth from bits 8:7 of the page attribute (42_primitives R200,
30_encoding R104). -/
def polygonTexture (clut texpage : Half) : Texture := ⟨clut, texpage, depthOf (texpage.extractLsb' 7 2)⟩

/-- The texture fields of a textured rectangle: page and depth from `draw_mode` at dispatch
(42_primitives R213, R218). -/
def rectTexture (s : State) (clut : Half) : Texture :=
  ⟨clut, s.bank.drawMode.extractLsb' 0 16, depthOf (s.bank.drawMode.extractLsb' 7 2)⟩

/-- The snapshot at dispatch (42_primitives R195). -/
def snapshotOf (s : State) : Snapshot := ⟨s.bank.texWindow, s.bank.setMask, s.bank.checkMask⟩

/-- `draw_mode[9]`, the dither flag of polygons and lines (10_state R22, 42_primitives R201, R207). -/
def ditherOf (s : State) : Bool := s.bank.drawMode.getLsbD 9

/-- One corner of a primitive as its command gives it. -/
structure Corner where
  color : Color
  pos : VertexWord
  u : Byte
  v : Byte
  deriving DecidableEq, Repr

/-- A corner without a texture word: `u = v = 0` (42_primitives R200). -/
def plainCorner (c : Color) (p : VertexWord) : Corner := ⟨c, p, 0#8, 0#8⟩

/-- A corner with its texture word (42_primitives R200). -/
def texCorner (c : Color) (p : VertexWord) (t : TexWord) : Corner := ⟨c, p, t.u, t.v⟩

/-- The vertex record of a corner (42_primitives R194). -/
def vertexRecord (s : State) (f : PrimFlags) (t : Texture) (k : Corner) : Vertex where
  x := coordX s k.pos
  y := coordY s k.pos
  color := rgbOf k.color
  u := k.u
  v := k.v
  texture := t
  flags := f
  snapshot := snapshotOf s

/-- Corners of a rectangle quad, in the order that splits into triangles (0, 1, 2) and (1, 2, 3), with unreduced
texture coordinates (42_primitives R217). -/
def RectQuad.corners (q : RectQuad) : List ((Int × Int) × (Int × Int)) :=
  let u : Int := q.u.toNat
  let v : Int := q.v.toNat
  [((q.x, q.y), (u, v)), ((q.x + q.w, q.y), (u + q.w, v)),
   ((q.x, q.y + q.h), (u, v + q.h)), ((q.x + q.w, q.y + q.h), (u + q.w, v + q.h))]

/-- CLUT column of a reference: bits 5:0 in units of 16 cells (30_encoding R103). -/
def clutX (clut : Half) : Nat := (clut.extractLsb' 0 6).toNat * 16

/-- CLUT row of a reference: bits 14:6 (30_encoding R103). -/
def clutY (clut : Half) : Nat := (clut.extractLsb' 6 9).toNat

/-- Base column of a texture page: bits 3:0 in units of 64 cells (10_state R22, 30_encoding R104). -/
def texpageX (page : Half) : Nat := (page.extractLsb' 0 4).toNat * 64

/-- Base row of a texture page: bit 4 in units of 256 rows (10_state R22, 30_encoding R104). -/
def texpageY (page : Half) : Nat := if page.getLsbD 4 then 256 else 0

/-! ## Copy geometry (43_vram_copy R241) -/

/-- `NormX(X)`. -/
def normX (x : Half) : BitVec 10 := x.extractLsb' 0 10

/-- `NormY(Y)`. -/
def normY (y : Half) : BitVec 9 := y.extractLsb' 0 9

/-- `NormW(W)`: 1 to 1024, 0 read as 1024. -/
def normW (w : Half) : Nat := ((w - 1#16).extractLsb' 0 10).toNat + 1

/-- `NormH(H)`: 1 to 512, 0 read as 512. -/
def normH (h : Half) : Nat := ((h - 1#16).extractLsb' 0 9).toNat + 1

/-- A transfer rectangle with its cursor at the first cell (43_vram_copy R244, R249). -/
def transferOf (pos size : PairWord) : Cursor := ⟨normX pos.lo, normY pos.hi, normW size.lo, normH size.hi, 0, 0⟩

end Sys2Proof.Machine
end

