-- ==== Sys2Proof/Machine/Copy.lean ====
section
/-! DEFINITION. The VRAM block-copy engine (43_vram_copy). -/

namespace Sys2Proof.Machine

/-- `ReservedCheck()`, made at dispatch before anything else (43_vram_copy R243, 60_exceptions R364). -/
def reservedCheck (op : Opcode) (reserved : Color) (s : State) : State :=
  if reserved = 0#24 then s else s.diag .reservedFieldNonZero (commandWord op reserved)

/-! ## CPU to VRAM -/

/-- The cell under a cursor: column and row wrapped separately (43_vram_copy R242). -/
def Cursor.cellX (c : Cursor) : BitVec 10 := wrapX c.x0 c.cx

/-- The row of the cell under a cursor (43_vram_copy R242). -/
def Cursor.cellY (c : Cursor) : BitVec 9 := wrapY c.y0 c.cy

/-- One step of a cursor in raster order, and whether it passed the last row (43_vram_copy R246). -/
def Cursor.advance (c : Cursor) : Cursor × Bool :=
  if c.cx + 1 = c.w then
    if c.cy + 1 = c.h then ({ c with cx := 0, cy := 0 }, true)
    else ({ c with cx := 0, cy := c.cy + 1 }, false)
  else ({ c with cx := c.cx + 1 }, false)

/-- `WritePixel(v)`: a masked write at the cursor, then the advance, which ends the transfer after the last cell
(43_vram_copy R246, R247). -/
def writePixel (v : Half) (s : State) : State :=
  let m := s.vram.fbWriteMasked s.wr.cellX s.wr.cellY v s.bank.setMask s.bank.checkMask
  let (c, last) := s.wr.advance
  let t := (s.setVram m).setWr c
  if last then t.setDec { t.dec with state := .idle } else t

/-- `CopyDataWord(word)`: the low half, then the high half unless the first ended the transfer
(43_vram_copy R245, R248). -/
def copyDataWord (word : Word) (s : State) : State :=
  let t := writePixel (word.extractLsb' 0 16) s
  if t.dec.state = .transfer then writePixel (word.extractLsb' 16 16) t else t

/-- Meaning of `COPY_CPU_VRAM`: the dispatch of its header, which enters the data phase (43_vram_copy R244). -/
def execCopyCpuVram (reserved : Color) (dst size : PairWord) (s : State) : Result :=
  s.commit (((reservedCheck 0xA0#8 reserved s).setWr (transferOf dst size)).dispatched .transfer)

/-! ## VRAM to CPU -/

/-- Meaning of `COPY_VRAM_CPU` (43_vram_copy R249). -/
def execCopyVramCpu (reserved : Color) (src size : PairWord) (s : State) : Result :=
  s.commit ((((reservedCheck 0xC0#8 reserved s).setRd (transferOf src size)).setReadMode .vramTransfer).dispatched .idle)

/-! ## VRAM to VRAM -/

/-- The bounds test, on the raw size fields (43_vram_copy R253). -/
def copyOutOfBounds (size : PairWord) : Bool := decide (1024 < size.lo.toNat) || decide (512 < size.hi.toNat)

/-- One cell of the copy: read, then masked write (43_vram_copy R252, R255). -/
def copyCell (sm cm : Bool) (sx : BitVec 10) (sy : BitVec 9) (dx : BitVec 10) (dy : BitVec 9) (m : Memory) : Memory :=
  m.fbWriteMasked dx dy (m.fbRead sx sy) sm cm

/-- Columns `i` to `i + n - 1` of row `j`, ascending (43_vram_copy R254). -/
def copyRow (sm cm : Bool) (sx : BitVec 10) (sy : BitVec 9) (dx : BitVec 10) (dy : BitVec 9) (j : Nat) :
    Nat → Nat → Memory → Memory
  | _, 0, m => m
  | i, n + 1, m =>
    copyRow sm cm sx sy dx dy j (i + 1) n (copyCell sm cm (wrapX sx i) (wrapY sy j) (wrapX dx i) (wrapY dy j) m)

/-- Rows `j` to `j + n - 1` of width `w`, ascending (43_vram_copy R254). -/
def copyRows (sm cm : Bool) (sx : BitVec 10) (sy : BitVec 9) (dx : BitVec 10) (dy : BitVec 9) (w : Nat) :
    Nat → Nat → Memory → Memory
  | _, 0, m => m
  | j, n + 1, m => copyRows sm cm sx sy dx dy w (j + 1) n (copyRow sm cm sx sy dx dy j 0 w m)

/-- VRAM after the copy of a whole rectangle (43_vram_copy R252). -/
def copyVram (sm cm : Bool) (src dst size : PairWord) (m : Memory) : Memory :=
  copyRows sm cm (normX src.lo) (normY src.hi) (normX dst.lo) (normY dst.hi) (normW size.lo) 0 (normH size.hi) m

/-- The copy or its abort, after the reserved-field check (43_vram_copy R252, R253, 60_exceptions R365, R370). -/
def copyOrAbort (src dst size : PairWord) (s : State) : State :=
  if copyOutOfBounds size then s.diag .copyBoundsAbort (pairWord size)
  else s.setVram (copyVram s.bank.setMask s.bank.checkMask src dst size s.vram)

/-- Meaning of `COPY_VRAM_VRAM` (43_vram_copy R252). -/
def execCopyVramVram (reserved : Color) (src dst size : PairWord) (s : State) : Result :=
  s.commit ((copyOrAbort src dst size (reservedCheck 0x80#8 reserved s)).dispatched .idle)

end Sys2Proof.Machine
end

