-- ==== Sys2Proof/Machine/Accept.lean ====
section
/-! DEFINITION. Taking one transaction: the draw-port state machine (40_command_decoder R130 to R145), the port
window (20_memory R61, R63), and the placing of an instruction as the next to run. -/

namespace Sys2Proof.Machine

/-- What becomes of a transaction. -/
inductive Accepted where
  /-- it completes an instruction, which runs in this state -/
  | run (i : Instr) (s : State)
  /-- it is taken in without running an instruction: a command word that awaits arguments, an argument, pixel data -/
  | hold (s : State)
  | fault (f : Fault)
  | refuse (r : Refusal)
  deriving DecidableEq, Repr

/-- `StartCommand(word)` for a multi-argument class (40_command_decoder R131, R133). -/
def startCommand (k : DecKind) (word : Word) (s : State) : State :=
  s.setDec { s.dec with
    state := .accum, kind := k, cmdWord := word, argLen := 0, argExpected := argCount (opOf word) }

/-- The polyline bit of the command word, `op[3]` = bit 27 (40_command_decoder R134). -/
def isPolyline (d : Decoder) : Bool := d.kind == .line && d.cmdWord.getLsbD 27

/-- `AppendArgument(word)` up to the dispatch: the word is stored, and a terminator in a polyline ends accumulation
(40_command_decoder R134, R135). -/
def appendArgument (cfg : Config.Params) (word : Word) (d : Decoder) : Decoder :=
  let len := d.argLen + 1
  { d with
    argBuf := d.argBuf.setIfInBounds d.argLen word
    argLen := len
    argExpected := if isPolyline d && isTerminator cfg word then len else d.argExpected }

/-- The argument words held, `A[0 .. arg_len - 1]` (10_state R41). -/
def Decoder.arguments (d : Decoder) : List Word := d.argBuf.toList.take d.argLen

/-- `Dispatch()`: the instruction whose command word and arguments the decoder holds (40_command_decoder R136). -/
def dispatch (s : State) : Accepted :=
  if kindOf (opOf s.dec.cmdWord) = some s.dec.kind then
    match decodeGp0 s.dec.cmdWord s.dec.arguments with
    | .ok i => .run i s
    | .error _ => .fault .decoderInconsistent
  else .fault .decoderInconsistent

/-- `WriteGP0(word)` (40_command_decoder R130). -/
def acceptDraw (word : Word) (s : State) : Accepted :=
  match s.dec.state with
  | .idle =>
    match kindOf (opOf word) with
    | some k => .hold (startCommand k word s)
    | none => .run (decodeImmediate word) s
  | .accum =>
    let t := s.setDec (appendArgument s.cfg word s.dec)
    if t.dec.argLen = t.dec.argExpected then dispatch t else .hold t
  | .transfer => .hold (copyDataWord word s)

/-- Take one transaction (00_scope R3, 20_memory R61, R63). While `fault` is 1 every one is refused
(60_exceptions R362). -/
def accept (t : Transaction) (s : State) : Accepted :=
  if s.fault then .refuse .afterFatal
  else
    match t with
    | .write offset size w =>
      if offset = 0 ∧ size = .word then acceptDraw w s
      else if offset = 4 ∧ size = .word then .run (decodeGp1 w) s
      else .refuse .portAccess
    | .read offset size =>
      if offset = 0 ∧ size = .word then .run .readData s
      else if offset = 4 ∧ size = .word then .run .readStatus s
      else .refuse .portAccess
    | .elapse cycles => .run (.step cycles) s
    | .backend x y v sm cm => .run (.backendWrite x y v sm cm) s

/-- The decoder as it stands when all but the last of a command's arguments have been stored. -/
def decoderAwaitingLast (word : Word) (k : DecKind) (args : List Word) : Decoder where
  state := .accum
  kind := k
  cmdWord := word
  argBuf := Vector.ofFn fun n => args.dropLast.getD n.val 0#32
  argLen := args.length - 1
  argExpected := argCount (opOf word)

/-- The state whose next transaction is the last word of the draw command in an opcode-table number (log entry 3). -/
def placeDrawCommand (s : State) (nbits w : Nat) : State :=
  let w := w % 2 ^ nbits
  let word := tableWord w 0
  match kindOf (opOf word), (tableArguments s.cfg w).getLast? with
  | some k, some last =>
    (s.setDec (decoderAwaitingLast word k (tableArguments s.cfg w))).setPending (.write 0 .word last :: s.pending)
  | _, _ => (s.setDec (s.dec.cleared .idle)).setPending (.write 0 .word word :: s.pending)

end Sys2Proof.Machine
end

