-- ==== Sys2Proof/Machine/Flags.lean ====
section
/-! DEFINITION. The status word and every flag computed from the state (45_bus_reads R326 to R331, 60_exceptions R366,
R369, 46_timing_engine R345, R347). -/

namespace Sys2Proof.Machine

/-- `irq_request`, the level output (60_exceptions R366). -/
def irqRequest (s : State) : Bool := s.bank.irqLatch

/-- "mid CPU to VRAM transfer" (43_vram_copy R262). -/
def midTransfer (s : State) : Bool := s.dec.state == .transfer

/-- `data_request`, status bit 25 and the level output (45_bus_reads R329, 60_exceptions R369). -/
def dataRequest (s : State) : Bool :=
  if s.bank.dmaDir = 0#2 then false
  else if s.bank.dmaDir = 3#2 then !midTransfer s
  else true

/-- The status word, bit 31 first (45_bus_reads R326). -/
def statusWord (s : State) : Word :=
  BitVec.ofBool s.timing.odd
  ++ (s.bank.dmaDir
  ++ (1#1
  ++ (BitVec.ofBool (!midTransfer s)
  ++ (1#1
  ++ (BitVec.ofBool (dataRequest s)
  ++ (BitVec.ofBool s.bank.irqLatch
  ++ (BitVec.ofBool (!s.bank.displayEnable)
  ++ (s.bank.dispMode.extractLsb' 2 4
  ++ (s.bank.dispMode.extractLsb' 0 2
  ++ (s.bank.dispMode.extractLsb' 6 1
  ++ (s.bank.drawMode.extractLsb' 11 1
  ++ (s.bank.dispMode.extractLsb' 7 1
  ++ (1#1
  ++ (BitVec.ofBool s.bank.checkMask
  ++ (BitVec.ofBool s.bank.setMask
  ++ s.bank.drawMode.extractLsb' 0 11)))))))))))))))

/-- `LinesTotal()` by `disp_mode[3]` (46_timing_engine R345). -/
def linesTotal (s : State) : Nat := if s.bank.dispMode.getLsbD 3 then s.cfg.linesTotalPal else 263

/-- `VblankStart()` by `disp_mode[3]` (46_timing_engine R345). -/
def vblankStart (s : State) : Nat := if s.bank.dispMode.getLsbD 3 then s.cfg.vblankStartPal else 243

/-- `in_vblank` (46_timing_engine R347). -/
def inVblank (s : State) : Bool := decide (vblankStart s ≤ s.timing.line)

end Sys2Proof.Machine
end

