-- ==== Sys2Proof/Machine/Bus.lean ====
section
/-! DEFINITION. The transactions without an encoding: the two reads, the time step, the backend write (45_bus_reads, 46_timing_engine, 20_memory R73). -/

namespace Sys2Proof.Machine

/-- `ReadPixel()`: the cell under the read cursor, and the state after the advance, which ends the transfer after the
last cell (45_bus_reads R323, 43_vram_copy R250, R251). -/
def readPixel (s : State) : Half × State :=
  let v := s.vram.fbRead s.rd.cellX s.rd.cellY
  let (c, last) := s.rd.advance
  let t := s.setRd c
  (v, if last then t.setReadMode .normal else t)

/-- `TransferRead()`: two cells, low half first; `READ_PAD` above when the first was the last cell
(45_bus_reads R323). -/
def transferRead (s : State) : Word × State :=
  let (lo, t) := readPixel s
  let (hi, t) := if t.readMode = .vramTransfer then readPixel t else (t.cfg.readPad, t)
  (hi ++ lo, t.setReadLatch (hi ++ lo))

/-- `ReadData()`: the word returned and the state after (45_bus_reads R320 to R324). -/
def readDataPort (s : State) : Word × State :=
  match s.readMode with
  | .normal => (s.readLatch, s)
  | .infoQuery => (s.readLatch, s)
  | .vramTransfer => transferRead s

/-- Meaning of `ReadData` (45_bus_reads R320). -/
def execReadData (s : State) : Result :=
  let (w, t) := readDataPort s
  s.commit (t.answer (.data w))

/-- Meaning of `ReadStatus` (45_bus_reads R325). -/
def execReadStatus (s : State) : Result := s.commit (s.answer (.status (statusWord s)))

/-- The wrap test of `Step`: past the last line, line 0 of the next frame, and `frame_complete`
(46_timing_engine R343, R346). -/
def wrapFrame (total : Nat) (t : Timing) : Timing × Bool :=
  if total ≤ t.line then ({ t with line := 0, frame := t.frame + 1#32 }, true) else (t, false)

/-- Field parity for a line and frame (46_timing_engine R344). -/
def parityOf (s : State) (t : Timing) : Bool :=
  if t.line < vblankStart s then
    if s.bank.dispMode.getLsbD 2 then t.frame.getLsbD 0 else t.line.testBit 0
  else false

/-- The timing state after `Step(cycles)`, and `frame_complete` (46_timing_engine R340 to R349). -/
def elapseTiming (cycles : Nat) (s : State) : Timing × Bool :=
  let dots := s.timing.dot + cycles
  let (t, complete) := wrapFrame (linesTotal s)
    { s.timing with line := s.timing.line + dots / s.cfg.dotsPerLine, dot := dots % s.cfg.dotsPerLine }
  ({ t with odd := parityOf s t }, complete)

/-- Meaning of `Step` (46_timing_engine R340). -/
def execStep (cycles : Nat) (s : State) : Result :=
  let (t, complete) := elapseTiming cycles s
  s.commit ((s.setTiming t).answer (.frameComplete complete))

/-- A pixel write at mathematical coordinates: dropped outside the grid (20_memory R73). -/
def backendVram (x y : Int) (v : Half) (sm cm : Bool) (m : Memory) : Memory :=
  if 0 ≤ x ∧ x < 1024 ∧ 0 ≤ y ∧ y < 512 then
    m.fbWriteMasked (BitVec.ofNat 10 x.toNat) (BitVec.ofNat 9 y.toNat) v sm cm
  else m

/-- Meaning of `BackendWrite` (20_memory R73). -/
def execBackendWrite (x y : Int) (v : Half) (sm cm : Bool) (s : State) : Result :=
  s.commit (s.setVram (backendVram x y v sm cm s.vram))

end Sys2Proof.Machine
end

