-- ==== Sys2Proof/Machine/Control.lean ====
section
/-! DEFINITION. The control-port commands (44_control_port R281 to R299). -/

namespace Sys2Proof.Machine

/-- What `RESET` does to "pending command state": the decoder idle and empty, the write transfer gone
(44_control_port R281, R282). -/
def State.clearCommand (s : State) : State := (s.dispatched .idle).setWr Cursor.zero

/-- A `GET_INFO` that latches `w` (44_control_port R291). -/
def latchInfo (w : Word) (s : State) : Result := s.commit ((s.setReadMode .infoQuery).setReadLatch w)

/-- A `GET_INFO` whose index latches nothing: only the read mode changes (44_control_port R298). -/
def latchNothing (s : State) : Result := s.commit (s.setReadMode .infoQuery)

/-- An unrecognized opcode: `raise Fatal(word)` (44_control_port R299). -/
def unrecognizedControl (word : Word) (s : State) : Result := s.commit (s.raiseFatal word)

/-- Meaning of `RESET` (44_control_port R281). -/
def execReset (s : State) : Result :=
  s.commit (((s.clearCommand.setBank RegisterBank.zero).setRd Cursor.zero).setReadMode .normal)

/-- Meaning of `RESET_CMDBUF` (44_control_port R282). -/
def execResetCmdbuf (word : Word) (s : State) : Result :=
  match s.cfg.commandBufferReset with
  | .clear => s.commit s.clearCommand
  | .noop => s.commit s
  | .fatal => s.commit (s.raiseFatal word)

/-- Meaning of `ACK_IRQ` (44_control_port R283). -/
def execAckIrq (s : State) : Result :=
  s.commit (s.setBank { s.bank with irqLatch := false })

/-- Meaning of `DISPLAY_ENABLE` (44_control_port R284). -/
def execDisplayEnable (off : Bool) (s : State) : Result :=
  s.commit (s.setBank { s.bank with displayEnable := !off })

/-- Meaning of `DMA_DIRECTION` (44_control_port R285). -/
def execDmaDirection (dir : BitVec 2) (s : State) : Result :=
  s.commit (s.setBank { s.bank with dmaDir := dir })

/-- Meaning of `DISPLAY_START` (44_control_port R286). -/
def execDisplayStart (x : BitVec 10) (y : BitVec 9) (s : State) : Result :=
  s.commit (s.setBank { s.bank with dispStartX := x, dispStartY := y })

/-- Meaning of `H_RANGE` (44_control_port R287). -/
def execHRange (x1 x2 : BitVec 12) (s : State) : Result :=
  s.commit (s.setBank { s.bank with hrangeX1 := x1, hrangeX2 := x2 })

/-- Meaning of `V_RANGE` (44_control_port R288). -/
def execVRange (y1 y2 : BitVec 10) (s : State) : Result :=
  s.commit (s.setBank { s.bank with vrangeY1 := y1, vrangeY2 := y2 })

/-- Meaning of `DISPLAY_MODE` (44_control_port R289). -/
def execDisplayMode (arg : BitVec 24) (s : State) : Result :=
  s.commit (s.setBank { s.bank with dispMode := arg })

/-- Meaning of `TEX_DISABLE_ALLOW` (44_control_port R290). -/
def execTexDisableAllow (allow : Bool) (s : State) : Result :=
  s.commit (s.setBank { s.bank with texDisableAllowed := allow })

/-- Meaning of `GP1_UNRECOGNIZED_0A` (44_control_port R299). -/
def execGp1Unrecognized0A (word : Word) (s : State) : Result := unrecognizedControl word s

/-- Meaning of `GP1_UNRECOGNIZED_0B` (44_control_port R299). -/
def execGp1Unrecognized0B (word : Word) (s : State) : Result := unrecognizedControl word s

/-- Meaning of `GP1_UNRECOGNIZED_0C` (44_control_port R299). -/
def execGp1Unrecognized0C (word : Word) (s : State) : Result := unrecognizedControl word s

/-- Meaning of `GP1_UNRECOGNIZED_0D` (44_control_port R299). -/
def execGp1Unrecognized0D (word : Word) (s : State) : Result := unrecognizedControl word s

/-- Meaning of `GP1_UNRECOGNIZED_0E` (44_control_port R299). -/
def execGp1Unrecognized0E (word : Word) (s : State) : Result := unrecognizedControl word s

/-- Meaning of `GP1_UNRECOGNIZED_0F` (44_control_port R299). -/
def execGp1Unrecognized0F (word : Word) (s : State) : Result := unrecognizedControl word s

/-- Meaning of `GET_INFO_NONE_0` (44_control_port R298). -/
def execGetInfoNone0 (s : State) : Result := latchNothing s

/-- Meaning of `GET_INFO_NONE_1` (44_control_port R298). -/
def execGetInfoNone1 (s : State) : Result := latchNothing s

/-- Meaning of `GET_INFO_TEX_WINDOW` (44_control_port R292). -/
def execGetInfoTexWindow (s : State) : Result :=
  latchInfo (0#8 ++ s.bank.texWindow) s

/-- Meaning of `GET_INFO_CLIP_TL` (44_control_port R293). -/
def execGetInfoClipTl (s : State) : Result :=
  latchInfo (0#12 ++ (s.bank.clipTop ++ s.bank.clipLeft)) s

/-- Meaning of `GET_INFO_CLIP_BR` (44_control_port R294). -/
def execGetInfoClipBr (s : State) : Result :=
  latchInfo (0#12 ++ (s.bank.clipBottom ++ s.bank.clipRight)) s

/-- Meaning of `GET_INFO_OFFSET` (44_control_port R295). -/
def execGetInfoOffset (s : State) : Result :=
  latchInfo (0#10 ++ (s.bank.offY ++ s.bank.offX)) s

/-- Meaning of `GET_INFO_NONE_6` (44_control_port R298). -/
def execGetInfoNone6 (s : State) : Result := latchNothing s

/-- Meaning of `GET_INFO_VERSION` (44_control_port R296). -/
def execGetInfoVersion (s : State) : Result :=
  latchInfo s.cfg.gpuVersion s

/-- Meaning of `GET_INFO_ZERO` (44_control_port R297). -/
def execGetInfoZero (s : State) : Result :=
  latchInfo 0#32 s

/-- Meaning of `GET_INFO_NONE_9` (44_control_port R298). -/
def execGetInfoNone9 (s : State) : Result := latchNothing s

/-- Meaning of `GET_INFO_NONE_A` (44_control_port R298). -/
def execGetInfoNoneA (s : State) : Result := latchNothing s

/-- Meaning of `GET_INFO_NONE_B` (44_control_port R298). -/
def execGetInfoNoneB (s : State) : Result := latchNothing s

/-- Meaning of `GET_INFO_NONE_C` (44_control_port R298). -/
def execGetInfoNoneC (s : State) : Result := latchNothing s

/-- Meaning of `GET_INFO_NONE_D` (44_control_port R298). -/
def execGetInfoNoneD (s : State) : Result := latchNothing s

/-- Meaning of `GET_INFO_NONE_E` (44_control_port R298). -/
def execGetInfoNoneE (s : State) : Result := latchNothing s

/-- Meaning of `GET_INFO_NONE_F` (44_control_port R298). -/
def execGetInfoNoneF (s : State) : Result := latchNothing s

/-- Meaning of `GP1_UNRECOGNIZED_20_3F` (44_control_port R299). -/
def execGp1Unrecognized20_3F (word : Word) (s : State) : Result := unrecognizedControl word s

end Sys2Proof.Machine
end

