-- ==== Sys2Proof/Machine/Fill.lean ====
section
/-! DEFINITION. FILL_RECT, the one primitive that writes VRAM itself (42_primitives R197, R198). -/

namespace Sys2Proof.Machine

/-- `x0 = X & 0x3F0` (42_primitives R197). -/
def fillX0 (pos : PairWord) : Nat := (pos.lo &&& 0x3F0#16).toNat

/-- `y0 = Y & 0x1FF` (42_primitives R197). -/
def fillY0 (pos : PairWord) : Nat := (pos.hi &&& 0x1FF#16).toNat

/-- `w = ((W & 0x3FF) + 0xF) & 0x7F0` (42_primitives R197). -/
def fillWidth (size : PairWord) : Nat := (((size.lo &&& 0x3FF#16) + 0xF#16) &&& 0x7F0#16).toNat

/-- `h = H & 0x1FF` (42_primitives R197). -/
def fillHeight (size : PairWord) : Nat := (size.hi &&& 0x1FF#16).toNat

/-- Unmasked writes of `v` to the `n` cells of row `y` from column `x` on (20_memory R70). -/
def fillRow (v : Half) (y : BitVec 9) : Nat → Nat → Memory → Memory
  | _, 0, m => m
  | x, n + 1, m => fillRow v y (x + 1) n (m.fbWrite (BitVec.ofNat 10 x) y v)

/-- Rows `y` to `y + n - 1`, each from column `x` on for `w` cells. -/
def fillRows (v : Half) (x w : Nat) : Nat → Nat → Memory → Memory
  | _, 0, m => m
  | y, n + 1, m => fillRows v x w (y + 1) n (fillRow v (BitVec.ofNat 9 y) x w m)

/-- VRAM after the fill: the rectangle clipped at column 1023 and row 511 (42_primitives R197). -/
def fillVram (c : Color) (pos size : PairWord) (m : Memory) : Memory :=
  let x0 := fillX0 pos
  let y0 := fillY0 pos
  fillRows (to15 c) x0 (min (x0 + fillWidth size) Config.vramWidth - x0) y0
    (min (y0 + fillHeight size) Config.vramHeight - y0) m

/-- Meaning of `FILL_RECT` (42_primitives R197). -/
def execFillRect (c : Color) (pos size : PairWord) (s : State) : Result :=
  s.commit ((s.setVram (fillVram c pos size s.vram)).dispatched .idle)

end Sys2Proof.Machine
end

