-- ==== Sys2Proof/Machine/Immediate.lean ====
section
/-! DEFINITION. The single-word draw commands and the unknown class (41_gp0_immediate R160 to R169). -/

namespace Sys2Proof.Machine

/-- The unknown class: one diagnostic event, no other change (41_gp0_immediate R169, 60_exceptions R363). -/
def unknownCommand (word : Word) (s : State) : Result := s.commit (s.diag .unknownGp0Opcode word)

/-- Meaning of `NOP` (41_gp0_immediate R160). -/
def execNop (s : State) : Result :=
  s.commit s

/-- Meaning of `CLEAR_CACHE` (41_gp0_immediate R161). -/
def execClearCache (s : State) : Result :=
  s.commit s

/-- Meaning of `IRQ_REQUEST` (41_gp0_immediate R162). -/
def execIrqRequest (s : State) : Result :=
  s.commit (s.setBank { s.bank with irqLatch := true })

/-- Meaning of `SET_DRAW_MODE` (41_gp0_immediate R163). -/
def execSetDrawMode (param : BitVec 24) (s : State) : Result :=
  s.commit (s.setBank { s.bank with drawMode := param })

/-- Meaning of `SET_TEX_WINDOW` (41_gp0_immediate R164). -/
def execSetTexWindow (param : BitVec 24) (s : State) : Result :=
  s.commit (s.setBank { s.bank with texWindow := param })

/-- Meaning of `SET_CLIP_TL` (41_gp0_immediate R165). -/
def execSetClipTl (x y : BitVec 10) (s : State) : Result :=
  s.commit (s.setBank { s.bank with clipLeft := x, clipTop := y })

/-- Meaning of `SET_CLIP_BR` (41_gp0_immediate R166). -/
def execSetClipBr (x y : BitVec 10) (s : State) : Result :=
  s.commit (s.setBank { s.bank with clipRight := x, clipBottom := y })

/-- Meaning of `SET_OFFSET` (41_gp0_immediate R167). -/
def execSetOffset (x y : BitVec 11) (s : State) : Result :=
  s.commit (s.setBank { s.bank with offX := x, offY := y })

/-- Meaning of `SET_MASK` (41_gp0_immediate R168). -/
def execSetMask (setBit checkBit : Bool) (s : State) : Result :=
  s.commit (s.setBank { s.bank with setMask := setBit, checkMask := checkBit })

/-- Meaning of `UNKNOWN_03` (41_gp0_immediate R169). -/
def execUnknown03 (word : Word) (s : State) : Result := unknownCommand word s

/-- Meaning of `UNKNOWN_04_07` (41_gp0_immediate R169). -/
def execUnknown04_07 (word : Word) (s : State) : Result := unknownCommand word s

/-- Meaning of `UNKNOWN_08_0F` (41_gp0_immediate R169). -/
def execUnknown08_0F (word : Word) (s : State) : Result := unknownCommand word s

/-- Meaning of `UNKNOWN_10_17` (41_gp0_immediate R169). -/
def execUnknown10_17 (word : Word) (s : State) : Result := unknownCommand word s

/-- Meaning of `UNKNOWN_18_1B` (41_gp0_immediate R169). -/
def execUnknown18_1B (word : Word) (s : State) : Result := unknownCommand word s

/-- Meaning of `UNKNOWN_1C_1D` (41_gp0_immediate R169). -/
def execUnknown1C_1D (word : Word) (s : State) : Result := unknownCommand word s

/-- Meaning of `UNKNOWN_1E` (41_gp0_immediate R169). -/
def execUnknown1E (word : Word) (s : State) : Result := unknownCommand word s

/-- Meaning of `UNKNOWN_81` (41_gp0_immediate R169). -/
def execUnknown81 (word : Word) (s : State) : Result := unknownCommand word s

/-- Meaning of `UNKNOWN_82_83` (41_gp0_immediate R169). -/
def execUnknown82_83 (word : Word) (s : State) : Result := unknownCommand word s

/-- Meaning of `UNKNOWN_84_87` (41_gp0_immediate R169). -/
def execUnknown84_87 (word : Word) (s : State) : Result := unknownCommand word s

/-- Meaning of `UNKNOWN_88_8F` (41_gp0_immediate R169). -/
def execUnknown88_8F (word : Word) (s : State) : Result := unknownCommand word s

/-- Meaning of `UNKNOWN_90_9F` (41_gp0_immediate R169). -/
def execUnknown90_9F (word : Word) (s : State) : Result := unknownCommand word s

/-- Meaning of `UNKNOWN_A1` (41_gp0_immediate R169). -/
def execUnknownA1 (word : Word) (s : State) : Result := unknownCommand word s

/-- Meaning of `UNKNOWN_A2_A3` (41_gp0_immediate R169). -/
def execUnknownA2_A3 (word : Word) (s : State) : Result := unknownCommand word s

/-- Meaning of `UNKNOWN_A4_A7` (41_gp0_immediate R169). -/
def execUnknownA4_A7 (word : Word) (s : State) : Result := unknownCommand word s

/-- Meaning of `UNKNOWN_A8_AF` (41_gp0_immediate R169). -/
def execUnknownA8_AF (word : Word) (s : State) : Result := unknownCommand word s

/-- Meaning of `UNKNOWN_B0_BF` (41_gp0_immediate R169). -/
def execUnknownB0_BF (word : Word) (s : State) : Result := unknownCommand word s

/-- Meaning of `UNKNOWN_C1` (41_gp0_immediate R169). -/
def execUnknownC1 (word : Word) (s : State) : Result := unknownCommand word s

/-- Meaning of `UNKNOWN_C2_C3` (41_gp0_immediate R169). -/
def execUnknownC2_C3 (word : Word) (s : State) : Result := unknownCommand word s

/-- Meaning of `UNKNOWN_C4_C7` (41_gp0_immediate R169). -/
def execUnknownC4_C7 (word : Word) (s : State) : Result := unknownCommand word s

/-- Meaning of `UNKNOWN_C8_CF` (41_gp0_immediate R169). -/
def execUnknownC8_CF (word : Word) (s : State) : Result := unknownCommand word s

/-- Meaning of `UNKNOWN_D0_DF` (41_gp0_immediate R169). -/
def execUnknownD0_DF (word : Word) (s : State) : Result := unknownCommand word s

/-- Meaning of `UNKNOWN_E0` (41_gp0_immediate R169). -/
def execUnknownE0 (word : Word) (s : State) : Result := unknownCommand word s

/-- Meaning of `UNKNOWN_E7` (41_gp0_immediate R169). -/
def execUnknownE7 (word : Word) (s : State) : Result := unknownCommand word s

/-- Meaning of `UNKNOWN_E8_EF` (41_gp0_immediate R169). -/
def execUnknownE8_EF (word : Word) (s : State) : Result := unknownCommand word s

/-- Meaning of `UNKNOWN_F0_FF` (41_gp0_immediate R169). -/
def execUnknownF0_FF (word : Word) (s : State) : Result := unknownCommand word s

end Sys2Proof.Machine
end

