-- ==== Sys2Proof/Machine/Line.lean ====
section
/-! DEFINITION. The line and polyline commands (42_primitives R205 to R210). -/

namespace Sys2Proof.Machine

/-- Line flags (42_primitives R207). -/
def lineFlags (s : State) (semi gouraud : Bool) : PrimFlags := ⟨semi, false, gouraud, ditherOf s⟩

/-- The record of a segment: two vertex records, no texture (42_primitives R207, R209). -/
def lineRecord (s : State) (f : PrimFlags) (p0 : VertexWord) (c0 : Color) (p1 : VertexWord) (c1 : Color) : Emission :=
  .lineSegment (vertexRecord s f noTexture (plainCorner c0 p0)) (vertexRecord s f noTexture (plainCorner c1 p1))

/-- A single segment (42_primitives R205). It makes no terminator test (D60). -/
def lineSingle (semi gouraud : Bool) (c0 : Color) (v0 : VertexWord) (c1 : Color) (v1 : VertexWord) (s : State) :
    Result :=
  s.commit ((s.emit [lineRecord s (lineFlags s semi gouraud) v0 c0 v1 c1]).dispatched .idle)

/-- A flat segment: both ends in the command's colour. -/
def lineFlat (semi : Bool) (c0 : Color) (v0 v1 : VertexWord) (s : State) : Result := lineSingle semi false c0 v0 c0 v1 s

/-- A gouraud segment: the second end has its own colour. -/
def lineGouraud (semi : Bool) (c0 : Color) (v0 : VertexWord) (c1 : Color) (v1 : VertexWord) (s : State) : Result :=
  lineSingle semi true c0 v0 c1 v1 s

/-- `POLYLINE_MAX_SEGMENTS` (00_scope R5). -/
def polylineMaxSegments : Nat := 15

/-- The arguments that are data: all of them, less a terminator in the last place (42_primitives R206). -/
def polylineData (cfg : Config.Params) (args : List Word) : List Word :=
  match args.getLast? with
  | some w => if isTerminator cfg w then args.dropLast else args
  | none => args

/-- The further segments of a flat polyline from vertex `p0`: one word each, at most `fuel` (42_primitives R206). -/
def flatChain (seg : VertexWord → VertexWord → Emission) : Nat → VertexWord → List Word → List Emission
  | fuel + 1, p0, w :: rest => seg p0 (vertexOf w) :: flatChain seg fuel (vertexOf w) rest
  | _, _, _ => []

/-- The further segments of a gouraud polyline from vertex `p0` of colour `c0`: a colour word and a vertex word each,
at most `fuel`; words too few for a segment are dropped (42_primitives R206). -/
def gouraudChain (seg : VertexWord → Color → VertexWord → Color → Emission) :
    Nat → VertexWord → Color → List Word → List Emission
  | fuel + 1, p0, c0, cw :: vw :: rest =>
    seg p0 c0 (vertexOf vw) (colorOf cw) :: gouraudChain seg fuel (vertexOf vw) (colorOf cw) rest
  | _, _, _, _ => []

/-- The records of a polyline (42_primitives R206, R208). -/
def polylineRecords (s : State) (semi gouraud : Bool) (c0 : Color) (args : List Word) : List Emission :=
  let f := lineFlags s semi gouraud
  match polylineData s.cfg args with
  | [] => []
  | v0 :: rest =>
    if gouraud then gouraudChain (lineRecord s f) polylineMaxSegments (vertexOf v0) c0 rest
    else flatChain (fun p0 p1 => lineRecord s f p0 c0 p1 c0) polylineMaxSegments (vertexOf v0) rest

/-- A polyline (42_primitives R206). -/
def polyline (semi gouraud : Bool) (c0 : Color) (args : List Word) (s : State) : Result :=
  s.commit ((s.emit (polylineRecords s semi gouraud c0 args)).dispatched .idle)

/-- Meaning of `LINE_F` (42_primitives R205). -/
def execLineF (c0 : Color) (v0 v1 : VertexWord) (s : State) : Result :=
  lineFlat false c0 v0 v1 s

/-- Meaning of `LINE_F_41` (42_primitives R205). -/
def execLineF41 (c0 : Color) (v0 v1 : VertexWord) (s : State) : Result :=
  lineFlat false c0 v0 v1 s

/-- Meaning of `LINE_F_S` (42_primitives R205). -/
def execLineFS (c0 : Color) (v0 v1 : VertexWord) (s : State) : Result :=
  lineFlat true c0 v0 v1 s

/-- Meaning of `LINE_F_S_43` (42_primitives R205). -/
def execLineFS43 (c0 : Color) (v0 v1 : VertexWord) (s : State) : Result :=
  lineFlat true c0 v0 v1 s

/-- Meaning of `LINE_F_44` (42_primitives R205). -/
def execLineF44 (c0 : Color) (v0 v1 : VertexWord) (s : State) : Result :=
  lineFlat false c0 v0 v1 s

/-- Meaning of `LINE_F_45` (42_primitives R205). -/
def execLineF45 (c0 : Color) (v0 v1 : VertexWord) (s : State) : Result :=
  lineFlat false c0 v0 v1 s

/-- Meaning of `LINE_F_S_46` (42_primitives R205). -/
def execLineFS46 (c0 : Color) (v0 v1 : VertexWord) (s : State) : Result :=
  lineFlat true c0 v0 v1 s

/-- Meaning of `LINE_F_S_47` (42_primitives R205). -/
def execLineFS47 (c0 : Color) (v0 v1 : VertexWord) (s : State) : Result :=
  lineFlat true c0 v0 v1 s

/-- Meaning of `PLINE_F` (42_primitives R206). -/
def execPlineF (c0 : Color) (args : List Word) (s : State) : Result :=
  polyline false false c0 args s

/-- Meaning of `PLINE_F_49` (42_primitives R206). -/
def execPlineF49 (c0 : Color) (args : List Word) (s : State) : Result :=
  polyline false false c0 args s

/-- Meaning of `PLINE_F_S` (42_primitives R206). -/
def execPlineFS (c0 : Color) (args : List Word) (s : State) : Result :=
  polyline true false c0 args s

/-- Meaning of `PLINE_F_S_4B` (42_primitives R206). -/
def execPlineFS4B (c0 : Color) (args : List Word) (s : State) : Result :=
  polyline true false c0 args s

/-- Meaning of `PLINE_F_4C` (42_primitives R206). -/
def execPlineF4C (c0 : Color) (args : List Word) (s : State) : Result :=
  polyline false false c0 args s

/-- Meaning of `PLINE_F_4D` (42_primitives R206). -/
def execPlineF4D (c0 : Color) (args : List Word) (s : State) : Result :=
  polyline false false c0 args s

/-- Meaning of `PLINE_F_S_4E` (42_primitives R206). -/
def execPlineFS4E (c0 : Color) (args : List Word) (s : State) : Result :=
  polyline true false c0 args s

/-- Meaning of `PLINE_F_S_4F` (42_primitives R206). -/
def execPlineFS4F (c0 : Color) (args : List Word) (s : State) : Result :=
  polyline true false c0 args s

/-- Meaning of `LINE_G` (42_primitives R205). -/
def execLineG (c0 : Color) (v0 : VertexWord) (c1 : Color) (v1 : VertexWord) (s : State) : Result :=
  lineGouraud false c0 v0 c1 v1 s

/-- Meaning of `LINE_G_51` (42_primitives R205). -/
def execLineG51 (c0 : Color) (v0 : VertexWord) (c1 : Color) (v1 : VertexWord) (s : State) : Result :=
  lineGouraud false c0 v0 c1 v1 s

/-- Meaning of `LINE_G_S` (42_primitives R205). -/
def execLineGS (c0 : Color) (v0 : VertexWord) (c1 : Color) (v1 : VertexWord) (s : State) : Result :=
  lineGouraud true c0 v0 c1 v1 s

/-- Meaning of `LINE_G_S_53` (42_primitives R205). -/
def execLineGS53 (c0 : Color) (v0 : VertexWord) (c1 : Color) (v1 : VertexWord) (s : State) : Result :=
  lineGouraud true c0 v0 c1 v1 s

/-- Meaning of `LINE_G_54` (42_primitives R205). -/
def execLineG54 (c0 : Color) (v0 : VertexWord) (c1 : Color) (v1 : VertexWord) (s : State) : Result :=
  lineGouraud false c0 v0 c1 v1 s

/-- Meaning of `LINE_G_55` (42_primitives R205). -/
def execLineG55 (c0 : Color) (v0 : VertexWord) (c1 : Color) (v1 : VertexWord) (s : State) : Result :=
  lineGouraud false c0 v0 c1 v1 s

/-- Meaning of `LINE_G_S_56` (42_primitives R205). -/
def execLineGS56 (c0 : Color) (v0 : VertexWord) (c1 : Color) (v1 : VertexWord) (s : State) : Result :=
  lineGouraud true c0 v0 c1 v1 s

/-- Meaning of `LINE_G_S_57` (42_primitives R205). -/
def execLineGS57 (c0 : Color) (v0 : VertexWord) (c1 : Color) (v1 : VertexWord) (s : State) : Result :=
  lineGouraud true c0 v0 c1 v1 s

/-- Meaning of `PLINE_G` (42_primitives R206). -/
def execPlineG (c0 : Color) (args : List Word) (s : State) : Result :=
  polyline false true c0 args s

/-- Meaning of `PLINE_G_59` (42_primitives R206). -/
def execPlineG59 (c0 : Color) (args : List Word) (s : State) : Result :=
  polyline false true c0 args s

/-- Meaning of `PLINE_G_S` (42_primitives R206). -/
def execPlineGS (c0 : Color) (args : List Word) (s : State) : Result :=
  polyline true true c0 args s

/-- Meaning of `PLINE_G_S_5B` (42_primitives R206). -/
def execPlineGS5B (c0 : Color) (args : List Word) (s : State) : Result :=
  polyline true true c0 args s

/-- Meaning of `PLINE_G_5C` (42_primitives R206). -/
def execPlineG5C (c0 : Color) (args : List Word) (s : State) : Result :=
  polyline false true c0 args s

/-- Meaning of `PLINE_G_5D` (42_primitives R206). -/
def execPlineG5D (c0 : Color) (args : List Word) (s : State) : Result :=
  polyline false true c0 args s

/-- Meaning of `PLINE_G_S_5E` (42_primitives R206). -/
def execPlineGS5E (c0 : Color) (args : List Word) (s : State) : Result :=
  polyline true true c0 args s

/-- Meaning of `PLINE_G_S_5F` (42_primitives R206). -/
def execPlineGS5F (c0 : Color) (args : List Word) (s : State) : Result :=
  polyline true true c0 args s

end Sys2Proof.Machine
end

