-- ==== Sys2Proof/Machine/Polygon.lean ====
section
/-! DEFINITION. The polygon commands (42_primitives R199 to R204). -/

namespace Sys2Proof.Machine

/-- Polygon flags: `semi`, `raw_tex`, `gouraud` from the opcode, `dither` from `draw_mode[9]` at dispatch
(42_primitives R201). -/
def polyFlags (s : State) (semi rawTex gouraud : Bool) : PrimFlags := ⟨semi, rawTex, gouraud, ditherOf s⟩

/-- Emit one triangle and end the dispatch (42_primitives R200, 40_command_decoder R136). -/
def drawTriangle (s : State) (f : PrimFlags) (t : Texture) (k0 k1 k2 : Corner) : Result :=
  let v := vertexRecord s f t
  s.commit ((s.emit [.triangle (v k0) (v k1) (v k2)]).dispatched .idle)

/-- Emit the two triangles of a quad, (0, 1, 2) then (1, 2, 3), and end the dispatch (42_primitives R202). -/
def drawQuad (s : State) (f : PrimFlags) (t : Texture) (k0 k1 k2 k3 : Corner) : Result :=
  let v := vertexRecord s f t
  s.commit ((s.emit [.triangle (v k0) (v k1) (v k2), .triangle (v k1) (v k2) (v k3)]).dispatched .idle)

/-- Flat triangle: word order of 42_primitives R199. -/
def polyFlat3 (semi rawTex : Bool) (c0 : Color) (v0 v1 v2 : VertexWord) (s : State) : Result :=
  drawTriangle s (polyFlags s semi rawTex false) noTexture
    (plainCorner c0 v0) (plainCorner c0 v1) (plainCorner c0 v2)

/-- Flat quad: word order of 42_primitives R199. -/
def polyFlat4 (semi rawTex : Bool) (c0 : Color) (v0 v1 v2 v3 : VertexWord) (s : State) : Result :=
  drawQuad s (polyFlags s semi rawTex false) noTexture
    (plainCorner c0 v0) (plainCorner c0 v1) (plainCorner c0 v2) (plainCorner c0 v3)

/-- Flat textured triangle: word order of 42_primitives R199. -/
def polyFlatTex3 (semi rawTex : Bool) (c0 : Color) (v0 : VertexWord) (t0 : TexWord) (v1 : VertexWord) (t1 : TexWord) (v2 : VertexWord) (t2 : TexWord) (s : State) : Result :=
  drawTriangle s (polyFlags s semi rawTex false) (polygonTexture t0.attr t1.attr)
    (texCorner c0 v0 t0) (texCorner c0 v1 t1) (texCorner c0 v2 t2)

/-- Flat textured quad: word order of 42_primitives R199. -/
def polyFlatTex4 (semi rawTex : Bool) (c0 : Color) (v0 : VertexWord) (t0 : TexWord) (v1 : VertexWord) (t1 : TexWord) (v2 : VertexWord) (t2 : TexWord) (v3 : VertexWord) (t3 : TexWord) (s : State) : Result :=
  drawQuad s (polyFlags s semi rawTex false) (polygonTexture t0.attr t1.attr)
    (texCorner c0 v0 t0) (texCorner c0 v1 t1) (texCorner c0 v2 t2) (texCorner c0 v3 t3)

/-- Gouraud triangle: word order of 42_primitives R199. -/
def polyGouraud3 (semi rawTex : Bool) (c0 : Color) (v0 : VertexWord) (c1 : Color) (v1 : VertexWord) (c2 : Color) (v2 : VertexWord) (s : State) : Result :=
  drawTriangle s (polyFlags s semi rawTex true) noTexture
    (plainCorner c0 v0) (plainCorner c1 v1) (plainCorner c2 v2)

/-- Gouraud quad: word order of 42_primitives R199. -/
def polyGouraud4 (semi rawTex : Bool) (c0 : Color) (v0 : VertexWord) (c1 : Color) (v1 : VertexWord) (c2 : Color) (v2 : VertexWord) (c3 : Color) (v3 : VertexWord) (s : State) : Result :=
  drawQuad s (polyFlags s semi rawTex true) noTexture
    (plainCorner c0 v0) (plainCorner c1 v1) (plainCorner c2 v2) (plainCorner c3 v3)

/-- Gouraud textured triangle: word order of 42_primitives R199. -/
def polyGouraudTex3 (semi rawTex : Bool) (c0 : Color) (v0 : VertexWord) (t0 : TexWord) (c1 : Color) (v1 : VertexWord) (t1 : TexWord) (c2 : Color) (v2 : VertexWord) (t2 : TexWord) (s : State) : Result :=
  drawTriangle s (polyFlags s semi rawTex true) (polygonTexture t0.attr t1.attr)
    (texCorner c0 v0 t0) (texCorner c1 v1 t1) (texCorner c2 v2 t2)

/-- Gouraud textured quad: word order of 42_primitives R199. -/
def polyGouraudTex4 (semi rawTex : Bool) (c0 : Color) (v0 : VertexWord) (t0 : TexWord) (c1 : Color) (v1 : VertexWord) (t1 : TexWord) (c2 : Color) (v2 : VertexWord) (t2 : TexWord) (c3 : Color) (v3 : VertexWord) (t3 : TexWord) (s : State) : Result :=
  drawQuad s (polyFlags s semi rawTex true) (polygonTexture t0.attr t1.attr)
    (texCorner c0 v0 t0) (texCorner c1 v1 t1) (texCorner c2 v2 t2) (texCorner c3 v3 t3)

/-- Meaning of `POLY_F3` (42_primitives R200). -/
def execPolyF3 (c0 : Color) (v0 v1 v2 : VertexWord) (s : State) : Result :=
  polyFlat3 false false c0 v0 v1 v2 s

/-- Meaning of `POLY_F3_R` (42_primitives R200). -/
def execPolyF3R (c0 : Color) (v0 v1 v2 : VertexWord) (s : State) : Result :=
  polyFlat3 false true c0 v0 v1 v2 s

/-- Meaning of `POLY_F3_S` (42_primitives R200). -/
def execPolyF3S (c0 : Color) (v0 v1 v2 : VertexWord) (s : State) : Result :=
  polyFlat3 true false c0 v0 v1 v2 s

/-- Meaning of `POLY_F3_S_R` (42_primitives R200). -/
def execPolyF3SR (c0 : Color) (v0 v1 v2 : VertexWord) (s : State) : Result :=
  polyFlat3 true true c0 v0 v1 v2 s

/-- Meaning of `POLY_FT3` (42_primitives R200). -/
def execPolyFT3 (c0 : Color) (v0 : VertexWord) (t0 : TexWord) (v1 : VertexWord) (t1 : TexWord) (v2 : VertexWord) (t2 : TexWord) (s : State) : Result :=
  polyFlatTex3 false false c0 v0 t0 v1 t1 v2 t2 s

/-- Meaning of `POLY_FT3_R` (42_primitives R200). -/
def execPolyFT3R (c0 : Color) (v0 : VertexWord) (t0 : TexWord) (v1 : VertexWord) (t1 : TexWord) (v2 : VertexWord) (t2 : TexWord) (s : State) : Result :=
  polyFlatTex3 false true c0 v0 t0 v1 t1 v2 t2 s

/-- Meaning of `POLY_FT3_S` (42_primitives R200). -/
def execPolyFT3S (c0 : Color) (v0 : VertexWord) (t0 : TexWord) (v1 : VertexWord) (t1 : TexWord) (v2 : VertexWord) (t2 : TexWord) (s : State) : Result :=
  polyFlatTex3 true false c0 v0 t0 v1 t1 v2 t2 s

/-- Meaning of `POLY_FT3_S_R` (42_primitives R200). -/
def execPolyFT3SR (c0 : Color) (v0 : VertexWord) (t0 : TexWord) (v1 : VertexWord) (t1 : TexWord) (v2 : VertexWord) (t2 : TexWord) (s : State) : Result :=
  polyFlatTex3 true true c0 v0 t0 v1 t1 v2 t2 s

/-- Meaning of `POLY_F4` (42_primitives R200). -/
def execPolyF4 (c0 : Color) (v0 v1 v2 v3 : VertexWord) (s : State) : Result :=
  polyFlat4 false false c0 v0 v1 v2 v3 s

/-- Meaning of `POLY_F4_R` (42_primitives R200). -/
def execPolyF4R (c0 : Color) (v0 v1 v2 v3 : VertexWord) (s : State) : Result :=
  polyFlat4 false true c0 v0 v1 v2 v3 s

/-- Meaning of `POLY_F4_S` (42_primitives R200). -/
def execPolyF4S (c0 : Color) (v0 v1 v2 v3 : VertexWord) (s : State) : Result :=
  polyFlat4 true false c0 v0 v1 v2 v3 s

/-- Meaning of `POLY_F4_S_R` (42_primitives R200). -/
def execPolyF4SR (c0 : Color) (v0 v1 v2 v3 : VertexWord) (s : State) : Result :=
  polyFlat4 true true c0 v0 v1 v2 v3 s

/-- Meaning of `POLY_FT4` (42_primitives R200). -/
def execPolyFT4 (c0 : Color) (v0 : VertexWord) (t0 : TexWord) (v1 : VertexWord) (t1 : TexWord) (v2 : VertexWord) (t2 : TexWord) (v3 : VertexWord) (t3 : TexWord) (s : State) : Result :=
  polyFlatTex4 false false c0 v0 t0 v1 t1 v2 t2 v3 t3 s

/-- Meaning of `POLY_FT4_R` (42_primitives R200). -/
def execPolyFT4R (c0 : Color) (v0 : VertexWord) (t0 : TexWord) (v1 : VertexWord) (t1 : TexWord) (v2 : VertexWord) (t2 : TexWord) (v3 : VertexWord) (t3 : TexWord) (s : State) : Result :=
  polyFlatTex4 false true c0 v0 t0 v1 t1 v2 t2 v3 t3 s

/-- Meaning of `POLY_FT4_S` (42_primitives R200). -/
def execPolyFT4S (c0 : Color) (v0 : VertexWord) (t0 : TexWord) (v1 : VertexWord) (t1 : TexWord) (v2 : VertexWord) (t2 : TexWord) (v3 : VertexWord) (t3 : TexWord) (s : State) : Result :=
  polyFlatTex4 true false c0 v0 t0 v1 t1 v2 t2 v3 t3 s

/-- Meaning of `POLY_FT4_S_R` (42_primitives R200). -/
def execPolyFT4SR (c0 : Color) (v0 : VertexWord) (t0 : TexWord) (v1 : VertexWord) (t1 : TexWord) (v2 : VertexWord) (t2 : TexWord) (v3 : VertexWord) (t3 : TexWord) (s : State) : Result :=
  polyFlatTex4 true true c0 v0 t0 v1 t1 v2 t2 v3 t3 s

/-- Meaning of `POLY_G3` (42_primitives R200). -/
def execPolyG3 (c0 : Color) (v0 : VertexWord) (c1 : Color) (v1 : VertexWord) (c2 : Color) (v2 : VertexWord) (s : State) : Result :=
  polyGouraud3 false false c0 v0 c1 v1 c2 v2 s

/-- Meaning of `POLY_G3_R` (42_primitives R200). -/
def execPolyG3R (c0 : Color) (v0 : VertexWord) (c1 : Color) (v1 : VertexWord) (c2 : Color) (v2 : VertexWord) (s : State) : Result :=
  polyGouraud3 false true c0 v0 c1 v1 c2 v2 s

/-- Meaning of `POLY_G3_S` (42_primitives R200). -/
def execPolyG3S (c0 : Color) (v0 : VertexWord) (c1 : Color) (v1 : VertexWord) (c2 : Color) (v2 : VertexWord) (s : State) : Result :=
  polyGouraud3 true false c0 v0 c1 v1 c2 v2 s

/-- Meaning of `POLY_G3_S_R` (42_primitives R200). -/
def execPolyG3SR (c0 : Color) (v0 : VertexWord) (c1 : Color) (v1 : VertexWord) (c2 : Color) (v2 : VertexWord) (s : State) : Result :=
  polyGouraud3 true true c0 v0 c1 v1 c2 v2 s

/-- Meaning of `POLY_GT3` (42_primitives R200). -/
def execPolyGT3 (c0 : Color) (v0 : VertexWord) (t0 : TexWord) (c1 : Color) (v1 : VertexWord) (t1 : TexWord) (c2 : Color) (v2 : VertexWord) (t2 : TexWord) (s : State) : Result :=
  polyGouraudTex3 false false c0 v0 t0 c1 v1 t1 c2 v2 t2 s

/-- Meaning of `POLY_GT3_R` (42_primitives R200). -/
def execPolyGT3R (c0 : Color) (v0 : VertexWord) (t0 : TexWord) (c1 : Color) (v1 : VertexWord) (t1 : TexWord) (c2 : Color) (v2 : VertexWord) (t2 : TexWord) (s : State) : Result :=
  polyGouraudTex3 false true c0 v0 t0 c1 v1 t1 c2 v2 t2 s

/-- Meaning of `POLY_GT3_S` (42_primitives R200). -/
def execPolyGT3S (c0 : Color) (v0 : VertexWord) (t0 : TexWord) (c1 : Color) (v1 : VertexWord) (t1 : TexWord) (c2 : Color) (v2 : VertexWord) (t2 : TexWord) (s : State) : Result :=
  polyGouraudTex3 true false c0 v0 t0 c1 v1 t1 c2 v2 t2 s

/-- Meaning of `POLY_GT3_S_R` (42_primitives R200). -/
def execPolyGT3SR (c0 : Color) (v0 : VertexWord) (t0 : TexWord) (c1 : Color) (v1 : VertexWord) (t1 : TexWord) (c2 : Color) (v2 : VertexWord) (t2 : TexWord) (s : State) : Result :=
  polyGouraudTex3 true true c0 v0 t0 c1 v1 t1 c2 v2 t2 s

/-- Meaning of `POLY_G4` (42_primitives R200). -/
def execPolyG4 (c0 : Color) (v0 : VertexWord) (c1 : Color) (v1 : VertexWord) (c2 : Color) (v2 : VertexWord) (c3 : Color) (v3 : VertexWord) (s : State) : Result :=
  polyGouraud4 false false c0 v0 c1 v1 c2 v2 c3 v3 s

/-- Meaning of `POLY_G4_R` (42_primitives R200). -/
def execPolyG4R (c0 : Color) (v0 : VertexWord) (c1 : Color) (v1 : VertexWord) (c2 : Color) (v2 : VertexWord) (c3 : Color) (v3 : VertexWord) (s : State) : Result :=
  polyGouraud4 false true c0 v0 c1 v1 c2 v2 c3 v3 s

/-- Meaning of `POLY_G4_S` (42_primitives R200). -/
def execPolyG4S (c0 : Color) (v0 : VertexWord) (c1 : Color) (v1 : VertexWord) (c2 : Color) (v2 : VertexWord) (c3 : Color) (v3 : VertexWord) (s : State) : Result :=
  polyGouraud4 true false c0 v0 c1 v1 c2 v2 c3 v3 s

/-- Meaning of `POLY_G4_S_R` (42_primitives R200). -/
def execPolyG4SR (c0 : Color) (v0 : VertexWord) (c1 : Color) (v1 : VertexWord) (c2 : Color) (v2 : VertexWord) (c3 : Color) (v3 : VertexWord) (s : State) : Result :=
  polyGouraud4 true true c0 v0 c1 v1 c2 v2 c3 v3 s

/-- Meaning of `POLY_GT4` (42_primitives R200). -/
def execPolyGT4 (c0 : Color) (v0 : VertexWord) (t0 : TexWord) (c1 : Color) (v1 : VertexWord) (t1 : TexWord) (c2 : Color) (v2 : VertexWord) (t2 : TexWord) (c3 : Color) (v3 : VertexWord) (t3 : TexWord) (s : State) : Result :=
  polyGouraudTex4 false false c0 v0 t0 c1 v1 t1 c2 v2 t2 c3 v3 t3 s

/-- Meaning of `POLY_GT4_R` (42_primitives R200). -/
def execPolyGT4R (c0 : Color) (v0 : VertexWord) (t0 : TexWord) (c1 : Color) (v1 : VertexWord) (t1 : TexWord) (c2 : Color) (v2 : VertexWord) (t2 : TexWord) (c3 : Color) (v3 : VertexWord) (t3 : TexWord) (s : State) : Result :=
  polyGouraudTex4 false true c0 v0 t0 c1 v1 t1 c2 v2 t2 c3 v3 t3 s

/-- Meaning of `POLY_GT4_S` (42_primitives R200). -/
def execPolyGT4S (c0 : Color) (v0 : VertexWord) (t0 : TexWord) (c1 : Color) (v1 : VertexWord) (t1 : TexWord) (c2 : Color) (v2 : VertexWord) (t2 : TexWord) (c3 : Color) (v3 : VertexWord) (t3 : TexWord) (s : State) : Result :=
  polyGouraudTex4 true false c0 v0 t0 c1 v1 t1 c2 v2 t2 c3 v3 t3 s

/-- Meaning of `POLY_GT4_S_R` (42_primitives R200). -/
def execPolyGT4SR (c0 : Color) (v0 : VertexWord) (t0 : TexWord) (c1 : Color) (v1 : VertexWord) (t1 : TexWord) (c2 : Color) (v2 : VertexWord) (t2 : TexWord) (c3 : Color) (v3 : VertexWord) (t3 : TexWord) (s : State) : Result :=
  polyGouraudTex4 true true c0 v0 t0 c1 v1 t1 c2 v2 t2 c3 v3 t3 s

end Sys2Proof.Machine
end

