-- ==== Sys2Proof/Machine/Rect.lean ====
section
/-! DEFINITION. The rectangle commands (42_primitives R211 to R219). -/

namespace Sys2Proof.Machine

/-- Rectangle flags: never gouraud, never dithered (42_primitives R215). -/
def rectFlags (semi rawTex : Bool) : PrimFlags := ⟨semi, rawTex, false, false⟩

/-- `w` or `h` of a variable rectangle: a signed 10-bit field, passed on as it is (42_primitives R212; log entry 18). -/
def rectExtent (v : Half) : Int := sext 10 v

/-- Emit one rectangle and end the dispatch (42_primitives R214). -/
def drawRect (s : State) (f : PrimFlags) (c : Color) (pos : VertexWord) (w h : Int) (u v : Byte) (t : Texture) :
    Result :=
  s.commit ((s.emit [.rectQuad ⟨coordX s pos, coordY s pos, w, h, rgbOf c, u, v, t, f, snapshotOf s⟩]).dispatched .idle)

/-- Fixed size, untextured. -/
def rectFixed (n : Int) (semi rawTex : Bool) (c : Color) (pos : VertexWord) (s : State) : Result :=
  drawRect s (rectFlags semi rawTex) c pos n n 0#8 0#8 noTexture

/-- Fixed size, textured. -/
def rectFixedTex (n : Int) (semi rawTex : Bool) (c : Color) (pos : VertexWord) (tex : TexWord) (s : State) : Result :=
  drawRect s (rectFlags semi rawTex) c pos n n tex.u tex.v (rectTexture s tex.attr)

/-- Variable size, untextured. -/
def rectSized (semi rawTex : Bool) (c : Color) (pos size : VertexWord) (s : State) : Result :=
  drawRect s (rectFlags semi rawTex) c pos (rectExtent size.x) (rectExtent size.y) 0#8 0#8 noTexture

/-- Variable size, textured: the texture word comes before the size word (42_primitives R211). -/
def rectSizedTex (semi rawTex : Bool) (c : Color) (pos : VertexWord) (tex : TexWord) (size : VertexWord) (s : State) :
    Result :=
  drawRect s (rectFlags semi rawTex) c pos (rectExtent size.x) (rectExtent size.y) tex.u tex.v (rectTexture s tex.attr)

/-- Meaning of `RECT_V` (42_primitives R214). -/
def execRectV (c : Color) (pos size : VertexWord) (s : State) : Result :=
  rectSized false false c pos size s

/-- Meaning of `RECT_V_R` (42_primitives R214). -/
def execRectVR (c : Color) (pos size : VertexWord) (s : State) : Result :=
  rectSized false true c pos size s

/-- Meaning of `RECT_V_S` (42_primitives R214). -/
def execRectVS (c : Color) (pos size : VertexWord) (s : State) : Result :=
  rectSized true false c pos size s

/-- Meaning of `RECT_V_S_R` (42_primitives R214). -/
def execRectVSR (c : Color) (pos size : VertexWord) (s : State) : Result :=
  rectSized true true c pos size s

/-- Meaning of `RECT_VT` (42_primitives R214). -/
def execRectVT (c : Color) (pos : VertexWord) (tex : TexWord) (size : VertexWord) (s : State) : Result :=
  rectSizedTex false false c pos tex size s

/-- Meaning of `RECT_VT_R` (42_primitives R214). -/
def execRectVTR (c : Color) (pos : VertexWord) (tex : TexWord) (size : VertexWord) (s : State) : Result :=
  rectSizedTex false true c pos tex size s

/-- Meaning of `RECT_VT_S` (42_primitives R214). -/
def execRectVTS (c : Color) (pos : VertexWord) (tex : TexWord) (size : VertexWord) (s : State) : Result :=
  rectSizedTex true false c pos tex size s

/-- Meaning of `RECT_VT_S_R` (42_primitives R214). -/
def execRectVTSR (c : Color) (pos : VertexWord) (tex : TexWord) (size : VertexWord) (s : State) : Result :=
  rectSizedTex true true c pos tex size s

/-- Meaning of `RECT_1` (42_primitives R214). -/
def execRect1 (c : Color) (pos : VertexWord) (s : State) : Result :=
  rectFixed 1 false false c pos s

/-- Meaning of `RECT_1_R` (42_primitives R214). -/
def execRect1R (c : Color) (pos : VertexWord) (s : State) : Result :=
  rectFixed 1 false true c pos s

/-- Meaning of `RECT_1_S` (42_primitives R214). -/
def execRect1S (c : Color) (pos : VertexWord) (s : State) : Result :=
  rectFixed 1 true false c pos s

/-- Meaning of `RECT_1_S_R` (42_primitives R214). -/
def execRect1SR (c : Color) (pos : VertexWord) (s : State) : Result :=
  rectFixed 1 true true c pos s

/-- Meaning of `RECT_1T` (42_primitives R214). -/
def execRect1T (c : Color) (pos : VertexWord) (tex : TexWord) (s : State) : Result :=
  rectFixedTex 1 false false c pos tex s

/-- Meaning of `RECT_1T_R` (42_primitives R214). -/
def execRect1TR (c : Color) (pos : VertexWord) (tex : TexWord) (s : State) : Result :=
  rectFixedTex 1 false true c pos tex s

/-- Meaning of `RECT_1T_S` (42_primitives R214). -/
def execRect1TS (c : Color) (pos : VertexWord) (tex : TexWord) (s : State) : Result :=
  rectFixedTex 1 true false c pos tex s

/-- Meaning of `RECT_1T_S_R` (42_primitives R214). -/
def execRect1TSR (c : Color) (pos : VertexWord) (tex : TexWord) (s : State) : Result :=
  rectFixedTex 1 true true c pos tex s

/-- Meaning of `RECT_8` (42_primitives R214). -/
def execRect8 (c : Color) (pos : VertexWord) (s : State) : Result :=
  rectFixed 8 false false c pos s

/-- Meaning of `RECT_8_R` (42_primitives R214). -/
def execRect8R (c : Color) (pos : VertexWord) (s : State) : Result :=
  rectFixed 8 false true c pos s

/-- Meaning of `RECT_8_S` (42_primitives R214). -/
def execRect8S (c : Color) (pos : VertexWord) (s : State) : Result :=
  rectFixed 8 true false c pos s

/-- Meaning of `RECT_8_S_R` (42_primitives R214). -/
def execRect8SR (c : Color) (pos : VertexWord) (s : State) : Result :=
  rectFixed 8 true true c pos s

/-- Meaning of `RECT_8T` (42_primitives R214). -/
def execRect8T (c : Color) (pos : VertexWord) (tex : TexWord) (s : State) : Result :=
  rectFixedTex 8 false false c pos tex s

/-- Meaning of `RECT_8T_R` (42_primitives R214). -/
def execRect8TR (c : Color) (pos : VertexWord) (tex : TexWord) (s : State) : Result :=
  rectFixedTex 8 false true c pos tex s

/-- Meaning of `RECT_8T_S` (42_primitives R214). -/
def execRect8TS (c : Color) (pos : VertexWord) (tex : TexWord) (s : State) : Result :=
  rectFixedTex 8 true false c pos tex s

/-- Meaning of `RECT_8T_S_R` (42_primitives R214). -/
def execRect8TSR (c : Color) (pos : VertexWord) (tex : TexWord) (s : State) : Result :=
  rectFixedTex 8 true true c pos tex s

/-- Meaning of `RECT_16` (42_primitives R214). -/
def execRect16 (c : Color) (pos : VertexWord) (s : State) : Result :=
  rectFixed 16 false false c pos s

/-- Meaning of `RECT_16_R` (42_primitives R214). -/
def execRect16R (c : Color) (pos : VertexWord) (s : State) : Result :=
  rectFixed 16 false true c pos s

/-- Meaning of `RECT_16_S` (42_primitives R214). -/
def execRect16S (c : Color) (pos : VertexWord) (s : State) : Result :=
  rectFixed 16 true false c pos s

/-- Meaning of `RECT_16_S_R` (42_primitives R214). -/
def execRect16SR (c : Color) (pos : VertexWord) (s : State) : Result :=
  rectFixed 16 true true c pos s

/-- Meaning of `RECT_16T` (42_primitives R214). -/
def execRect16T (c : Color) (pos : VertexWord) (tex : TexWord) (s : State) : Result :=
  rectFixedTex 16 false false c pos tex s

/-- Meaning of `RECT_16T_R` (42_primitives R214). -/
def execRect16TR (c : Color) (pos : VertexWord) (tex : TexWord) (s : State) : Result :=
  rectFixedTex 16 false true c pos tex s

/-- Meaning of `RECT_16T_S` (42_primitives R214). -/
def execRect16TS (c : Color) (pos : VertexWord) (tex : TexWord) (s : State) : Result :=
  rectFixedTex 16 true false c pos tex s

/-- Meaning of `RECT_16T_S_R` (42_primitives R214). -/
def execRect16TSR (c : Color) (pos : VertexWord) (tex : TexWord) (s : State) : Result :=
  rectFixedTex 16 true true c pos tex s

end Sys2Proof.Machine
end

