-- ==== Sys2Proof/Machine/Dispatch.lean ====
section
/-! DEFINITION. The dispatch: one arm for each instruction, each a direct call of its meaning. -/

namespace Sys2Proof.Machine

def exec (i : Instr) (s : State) : Host.Outcome State Fault Refusal :=
  match i with
  | .nop => Sys2Proof.Machine.execNop s
  | .clearCache => Sys2Proof.Machine.execClearCache s
  | .fillRect c pos size => Sys2Proof.Machine.execFillRect c pos size s
  | .irqRequest => Sys2Proof.Machine.execIrqRequest s
  | .polyF3 c0 v0 v1 v2 => Sys2Proof.Machine.execPolyF3 c0 v0 v1 v2 s
  | .polyF3R c0 v0 v1 v2 => Sys2Proof.Machine.execPolyF3R c0 v0 v1 v2 s
  | .polyF3S c0 v0 v1 v2 => Sys2Proof.Machine.execPolyF3S c0 v0 v1 v2 s
  | .polyF3SR c0 v0 v1 v2 => Sys2Proof.Machine.execPolyF3SR c0 v0 v1 v2 s
  | .polyFT3 c0 v0 t0 v1 t1 v2 t2 => Sys2Proof.Machine.execPolyFT3 c0 v0 t0 v1 t1 v2 t2 s
  | .polyFT3R c0 v0 t0 v1 t1 v2 t2 => Sys2Proof.Machine.execPolyFT3R c0 v0 t0 v1 t1 v2 t2 s
  | .polyFT3S c0 v0 t0 v1 t1 v2 t2 => Sys2Proof.Machine.execPolyFT3S c0 v0 t0 v1 t1 v2 t2 s
  | .polyFT3SR c0 v0 t0 v1 t1 v2 t2 => Sys2Proof.Machine.execPolyFT3SR c0 v0 t0 v1 t1 v2 t2 s
  | .polyF4 c0 v0 v1 v2 v3 => Sys2Proof.Machine.execPolyF4 c0 v0 v1 v2 v3 s
  | .polyF4R c0 v0 v1 v2 v3 => Sys2Proof.Machine.execPolyF4R c0 v0 v1 v2 v3 s
  | .polyF4S c0 v0 v1 v2 v3 => Sys2Proof.Machine.execPolyF4S c0 v0 v1 v2 v3 s
  | .polyF4SR c0 v0 v1 v2 v3 => Sys2Proof.Machine.execPolyF4SR c0 v0 v1 v2 v3 s
  | .polyFT4 c0 v0 t0 v1 t1 v2 t2 v3 t3 => Sys2Proof.Machine.execPolyFT4 c0 v0 t0 v1 t1 v2 t2 v3 t3 s
  | .polyFT4R c0 v0 t0 v1 t1 v2 t2 v3 t3 => Sys2Proof.Machine.execPolyFT4R c0 v0 t0 v1 t1 v2 t2 v3 t3 s
  | .polyFT4S c0 v0 t0 v1 t1 v2 t2 v3 t3 => Sys2Proof.Machine.execPolyFT4S c0 v0 t0 v1 t1 v2 t2 v3 t3 s
  | .polyFT4SR c0 v0 t0 v1 t1 v2 t2 v3 t3 => Sys2Proof.Machine.execPolyFT4SR c0 v0 t0 v1 t1 v2 t2 v3 t3 s
  | .polyG3 c0 v0 c1 v1 c2 v2 => Sys2Proof.Machine.execPolyG3 c0 v0 c1 v1 c2 v2 s
  | .polyG3R c0 v0 c1 v1 c2 v2 => Sys2Proof.Machine.execPolyG3R c0 v0 c1 v1 c2 v2 s
  | .polyG3S c0 v0 c1 v1 c2 v2 => Sys2Proof.Machine.execPolyG3S c0 v0 c1 v1 c2 v2 s
  | .polyG3SR c0 v0 c1 v1 c2 v2 => Sys2Proof.Machine.execPolyG3SR c0 v0 c1 v1 c2 v2 s
  | .polyGT3 c0 v0 t0 c1 v1 t1 c2 v2 t2 => Sys2Proof.Machine.execPolyGT3 c0 v0 t0 c1 v1 t1 c2 v2 t2 s
  | .polyGT3R c0 v0 t0 c1 v1 t1 c2 v2 t2 => Sys2Proof.Machine.execPolyGT3R c0 v0 t0 c1 v1 t1 c2 v2 t2 s
  | .polyGT3S c0 v0 t0 c1 v1 t1 c2 v2 t2 => Sys2Proof.Machine.execPolyGT3S c0 v0 t0 c1 v1 t1 c2 v2 t2 s
  | .polyGT3SR c0 v0 t0 c1 v1 t1 c2 v2 t2 => Sys2Proof.Machine.execPolyGT3SR c0 v0 t0 c1 v1 t1 c2 v2 t2 s
  | .polyG4 c0 v0 c1 v1 c2 v2 c3 v3 => Sys2Proof.Machine.execPolyG4 c0 v0 c1 v1 c2 v2 c3 v3 s
  | .polyG4R c0 v0 c1 v1 c2 v2 c3 v3 => Sys2Proof.Machine.execPolyG4R c0 v0 c1 v1 c2 v2 c3 v3 s
  | .polyG4S c0 v0 c1 v1 c2 v2 c3 v3 => Sys2Proof.Machine.execPolyG4S c0 v0 c1 v1 c2 v2 c3 v3 s
  | .polyG4SR c0 v0 c1 v1 c2 v2 c3 v3 => Sys2Proof.Machine.execPolyG4SR c0 v0 c1 v1 c2 v2 c3 v3 s
  | .polyGT4 c0 v0 t0 c1 v1 t1 c2 v2 t2 c3 v3 t3 => Sys2Proof.Machine.execPolyGT4 c0 v0 t0 c1 v1 t1 c2 v2 t2 c3 v3 t3 s
  | .polyGT4R c0 v0 t0 c1 v1 t1 c2 v2 t2 c3 v3 t3 => Sys2Proof.Machine.execPolyGT4R c0 v0 t0 c1 v1 t1 c2 v2 t2 c3 v3 t3 s
  | .polyGT4S c0 v0 t0 c1 v1 t1 c2 v2 t2 c3 v3 t3 => Sys2Proof.Machine.execPolyGT4S c0 v0 t0 c1 v1 t1 c2 v2 t2 c3 v3 t3 s
  | .polyGT4SR c0 v0 t0 c1 v1 t1 c2 v2 t2 c3 v3 t3 => Sys2Proof.Machine.execPolyGT4SR c0 v0 t0 c1 v1 t1 c2 v2 t2 c3 v3 t3 s
  | .lineF c0 v0 v1 => Sys2Proof.Machine.execLineF c0 v0 v1 s
  | .lineF41 c0 v0 v1 => Sys2Proof.Machine.execLineF41 c0 v0 v1 s
  | .lineFS c0 v0 v1 => Sys2Proof.Machine.execLineFS c0 v0 v1 s
  | .lineFS43 c0 v0 v1 => Sys2Proof.Machine.execLineFS43 c0 v0 v1 s
  | .lineF44 c0 v0 v1 => Sys2Proof.Machine.execLineF44 c0 v0 v1 s
  | .lineF45 c0 v0 v1 => Sys2Proof.Machine.execLineF45 c0 v0 v1 s
  | .lineFS46 c0 v0 v1 => Sys2Proof.Machine.execLineFS46 c0 v0 v1 s
  | .lineFS47 c0 v0 v1 => Sys2Proof.Machine.execLineFS47 c0 v0 v1 s
  | .plineF c0 args => Sys2Proof.Machine.execPlineF c0 args s
  | .plineF49 c0 args => Sys2Proof.Machine.execPlineF49 c0 args s
  | .plineFS c0 args => Sys2Proof.Machine.execPlineFS c0 args s
  | .plineFS4B c0 args => Sys2Proof.Machine.execPlineFS4B c0 args s
  | .plineF4C c0 args => Sys2Proof.Machine.execPlineF4C c0 args s
  | .plineF4D c0 args => Sys2Proof.Machine.execPlineF4D c0 args s
  | .plineFS4E c0 args => Sys2Proof.Machine.execPlineFS4E c0 args s
  | .plineFS4F c0 args => Sys2Proof.Machine.execPlineFS4F c0 args s
  | .lineG c0 v0 c1 v1 => Sys2Proof.Machine.execLineG c0 v0 c1 v1 s
  | .lineG51 c0 v0 c1 v1 => Sys2Proof.Machine.execLineG51 c0 v0 c1 v1 s
  | .lineGS c0 v0 c1 v1 => Sys2Proof.Machine.execLineGS c0 v0 c1 v1 s
  | .lineGS53 c0 v0 c1 v1 => Sys2Proof.Machine.execLineGS53 c0 v0 c1 v1 s
  | .lineG54 c0 v0 c1 v1 => Sys2Proof.Machine.execLineG54 c0 v0 c1 v1 s
  | .lineG55 c0 v0 c1 v1 => Sys2Proof.Machine.execLineG55 c0 v0 c1 v1 s
  | .lineGS56 c0 v0 c1 v1 => Sys2Proof.Machine.execLineGS56 c0 v0 c1 v1 s
  | .lineGS57 c0 v0 c1 v1 => Sys2Proof.Machine.execLineGS57 c0 v0 c1 v1 s
  | .plineG c0 args => Sys2Proof.Machine.execPlineG c0 args s
  | .plineG59 c0 args => Sys2Proof.Machine.execPlineG59 c0 args s
  | .plineGS c0 args => Sys2Proof.Machine.execPlineGS c0 args s
  | .plineGS5B c0 args => Sys2Proof.Machine.execPlineGS5B c0 args s
  | .plineG5C c0 args => Sys2Proof.Machine.execPlineG5C c0 args s
  | .plineG5D c0 args => Sys2Proof.Machine.execPlineG5D c0 args s
  | .plineGS5E c0 args => Sys2Proof.Machine.execPlineGS5E c0 args s
  | .plineGS5F c0 args => Sys2Proof.Machine.execPlineGS5F c0 args s
  | .rectV c pos size => Sys2Proof.Machine.execRectV c pos size s
  | .rectVR c pos size => Sys2Proof.Machine.execRectVR c pos size s
  | .rectVS c pos size => Sys2Proof.Machine.execRectVS c pos size s
  | .rectVSR c pos size => Sys2Proof.Machine.execRectVSR c pos size s
  | .rectVT c pos tex size => Sys2Proof.Machine.execRectVT c pos tex size s
  | .rectVTR c pos tex size => Sys2Proof.Machine.execRectVTR c pos tex size s
  | .rectVTS c pos tex size => Sys2Proof.Machine.execRectVTS c pos tex size s
  | .rectVTSR c pos tex size => Sys2Proof.Machine.execRectVTSR c pos tex size s
  | .rect1 c pos => Sys2Proof.Machine.execRect1 c pos s
  | .rect1R c pos => Sys2Proof.Machine.execRect1R c pos s
  | .rect1S c pos => Sys2Proof.Machine.execRect1S c pos s
  | .rect1SR c pos => Sys2Proof.Machine.execRect1SR c pos s
  | .rect1T c pos tex => Sys2Proof.Machine.execRect1T c pos tex s
  | .rect1TR c pos tex => Sys2Proof.Machine.execRect1TR c pos tex s
  | .rect1TS c pos tex => Sys2Proof.Machine.execRect1TS c pos tex s
  | .rect1TSR c pos tex => Sys2Proof.Machine.execRect1TSR c pos tex s
  | .rect8 c pos => Sys2Proof.Machine.execRect8 c pos s
  | .rect8R c pos => Sys2Proof.Machine.execRect8R c pos s
  | .rect8S c pos => Sys2Proof.Machine.execRect8S c pos s
  | .rect8SR c pos => Sys2Proof.Machine.execRect8SR c pos s
  | .rect8T c pos tex => Sys2Proof.Machine.execRect8T c pos tex s
  | .rect8TR c pos tex => Sys2Proof.Machine.execRect8TR c pos tex s
  | .rect8TS c pos tex => Sys2Proof.Machine.execRect8TS c pos tex s
  | .rect8TSR c pos tex => Sys2Proof.Machine.execRect8TSR c pos tex s
  | .rect16 c pos => Sys2Proof.Machine.execRect16 c pos s
  | .rect16R c pos => Sys2Proof.Machine.execRect16R c pos s
  | .rect16S c pos => Sys2Proof.Machine.execRect16S c pos s
  | .rect16SR c pos => Sys2Proof.Machine.execRect16SR c pos s
  | .rect16T c pos tex => Sys2Proof.Machine.execRect16T c pos tex s
  | .rect16TR c pos tex => Sys2Proof.Machine.execRect16TR c pos tex s
  | .rect16TS c pos tex => Sys2Proof.Machine.execRect16TS c pos tex s
  | .rect16TSR c pos tex => Sys2Proof.Machine.execRect16TSR c pos tex s
  | .copyVramVram reserved src dst size => Sys2Proof.Machine.execCopyVramVram reserved src dst size s
  | .copyCpuVram reserved dst size => Sys2Proof.Machine.execCopyCpuVram reserved dst size s
  | .copyVramCpu reserved src size => Sys2Proof.Machine.execCopyVramCpu reserved src size s
  | .setDrawMode param => Sys2Proof.Machine.execSetDrawMode param s
  | .setTexWindow param => Sys2Proof.Machine.execSetTexWindow param s
  | .setClipTl x y => Sys2Proof.Machine.execSetClipTl x y s
  | .setClipBr x y => Sys2Proof.Machine.execSetClipBr x y s
  | .setOffset x y => Sys2Proof.Machine.execSetOffset x y s
  | .setMask setBit checkBit => Sys2Proof.Machine.execSetMask setBit checkBit s
  | .unknown03 word => Sys2Proof.Machine.execUnknown03 word s
  | .unknown04_07 word => Sys2Proof.Machine.execUnknown04_07 word s
  | .unknown08_0F word => Sys2Proof.Machine.execUnknown08_0F word s
  | .unknown10_17 word => Sys2Proof.Machine.execUnknown10_17 word s
  | .unknown18_1B word => Sys2Proof.Machine.execUnknown18_1B word s
  | .unknown1C_1D word => Sys2Proof.Machine.execUnknown1C_1D word s
  | .unknown1E word => Sys2Proof.Machine.execUnknown1E word s
  | .unknown81 word => Sys2Proof.Machine.execUnknown81 word s
  | .unknown82_83 word => Sys2Proof.Machine.execUnknown82_83 word s
  | .unknown84_87 word => Sys2Proof.Machine.execUnknown84_87 word s
  | .unknown88_8F word => Sys2Proof.Machine.execUnknown88_8F word s
  | .unknown90_9F word => Sys2Proof.Machine.execUnknown90_9F word s
  | .unknownA1 word => Sys2Proof.Machine.execUnknownA1 word s
  | .unknownA2_A3 word => Sys2Proof.Machine.execUnknownA2_A3 word s
  | .unknownA4_A7 word => Sys2Proof.Machine.execUnknownA4_A7 word s
  | .unknownA8_AF word => Sys2Proof.Machine.execUnknownA8_AF word s
  | .unknownB0_BF word => Sys2Proof.Machine.execUnknownB0_BF word s
  | .unknownC1 word => Sys2Proof.Machine.execUnknownC1 word s
  | .unknownC2_C3 word => Sys2Proof.Machine.execUnknownC2_C3 word s
  | .unknownC4_C7 word => Sys2Proof.Machine.execUnknownC4_C7 word s
  | .unknownC8_CF word => Sys2Proof.Machine.execUnknownC8_CF word s
  | .unknownD0_DF word => Sys2Proof.Machine.execUnknownD0_DF word s
  | .unknownE0 word => Sys2Proof.Machine.execUnknownE0 word s
  | .unknownE7 word => Sys2Proof.Machine.execUnknownE7 word s
  | .unknownE8_EF word => Sys2Proof.Machine.execUnknownE8_EF word s
  | .unknownF0_FF word => Sys2Proof.Machine.execUnknownF0_FF word s
  | .reset => Sys2Proof.Machine.execReset s
  | .resetCmdbuf word => Sys2Proof.Machine.execResetCmdbuf word s
  | .ackIrq => Sys2Proof.Machine.execAckIrq s
  | .displayEnable off => Sys2Proof.Machine.execDisplayEnable off s
  | .dmaDirection dir => Sys2Proof.Machine.execDmaDirection dir s
  | .displayStart x y => Sys2Proof.Machine.execDisplayStart x y s
  | .hRange x1 x2 => Sys2Proof.Machine.execHRange x1 x2 s
  | .vRange y1 y2 => Sys2Proof.Machine.execVRange y1 y2 s
  | .displayMode arg => Sys2Proof.Machine.execDisplayMode arg s
  | .texDisableAllow allow => Sys2Proof.Machine.execTexDisableAllow allow s
  | .gp1Unrecognized0A word => Sys2Proof.Machine.execGp1Unrecognized0A word s
  | .gp1Unrecognized0B word => Sys2Proof.Machine.execGp1Unrecognized0B word s
  | .gp1Unrecognized0C word => Sys2Proof.Machine.execGp1Unrecognized0C word s
  | .gp1Unrecognized0D word => Sys2Proof.Machine.execGp1Unrecognized0D word s
  | .gp1Unrecognized0E word => Sys2Proof.Machine.execGp1Unrecognized0E word s
  | .gp1Unrecognized0F word => Sys2Proof.Machine.execGp1Unrecognized0F word s
  | .getInfoNone0 => Sys2Proof.Machine.execGetInfoNone0 s
  | .getInfoNone1 => Sys2Proof.Machine.execGetInfoNone1 s
  | .getInfoTexWindow => Sys2Proof.Machine.execGetInfoTexWindow s
  | .getInfoClipTl => Sys2Proof.Machine.execGetInfoClipTl s
  | .getInfoClipBr => Sys2Proof.Machine.execGetInfoClipBr s
  | .getInfoOffset => Sys2Proof.Machine.execGetInfoOffset s
  | .getInfoNone6 => Sys2Proof.Machine.execGetInfoNone6 s
  | .getInfoVersion => Sys2Proof.Machine.execGetInfoVersion s
  | .getInfoZero => Sys2Proof.Machine.execGetInfoZero s
  | .getInfoNone9 => Sys2Proof.Machine.execGetInfoNone9 s
  | .getInfoNoneA => Sys2Proof.Machine.execGetInfoNoneA s
  | .getInfoNoneB => Sys2Proof.Machine.execGetInfoNoneB s
  | .getInfoNoneC => Sys2Proof.Machine.execGetInfoNoneC s
  | .getInfoNoneD => Sys2Proof.Machine.execGetInfoNoneD s
  | .getInfoNoneE => Sys2Proof.Machine.execGetInfoNoneE s
  | .getInfoNoneF => Sys2Proof.Machine.execGetInfoNoneF s
  | .gp1Unrecognized20_3F word => Sys2Proof.Machine.execGp1Unrecognized20_3F word s
  | .readData => Sys2Proof.Machine.execReadData s
  | .readStatus => Sys2Proof.Machine.execReadStatus s
  | .step cycles => Sys2Proof.Machine.execStep cycles s
  | .backendWrite x y v sm cm => Sys2Proof.Machine.execBackendWrite x y v sm cm s

end Sys2Proof.Machine
end

