-- ==== Sys2Proof/Machine/Step.lean ====
section
/-! DEFINITION. One step of the machine: the oldest transaction that has not been taken. -/

namespace Sys2Proof.Machine

/-- One step. With no transaction pending nothing happens: the block is purely reactive (00_scope R3; log entry 2). -/
def step (s : State) : Host.Outcome State Fault Refusal :=
  match s.pending with
  | [] => .next s
  | t :: rest =>
    match accept t (s.setPending rest) with
    | .run i s' => exec i s'
    | .hold s' => .next s'
    | .fault f => .fault f
    | .refuse r => .refused r

/-- `s` with the draw-port instruction of an opcode-table number as the next to run: its last word pending, the words
before it stored in the decoder as the decoder stores them. DESIGN CHOICE: log entry 3. -/
def State.withFetchWord (s : State) (nbits w : Nat) : State := placeDrawCommand s nbits w

end Sys2Proof.Machine
end

