-- ==== Sys2Proof/Safety.lean ====
section
/-! DEFINITION. The invariant of the states, runs of several steps, the families of instructions, and the spec's
pseudocode over argument words and over an abstract framebuffer, in the terms the statements use. -/

namespace Sys2Proof

/-! ## Families -/

/-- The 32 polygon commands (42_primitives R203). -/
def Instr.isPolygon : Instr → Bool
  | .polyF3 .. | .polyF3R .. | .polyF3S .. | .polyF3SR .. | .polyFT3 .. | .polyFT3R .. | .polyFT3S ..
  | .polyFT3SR .. | .polyF4 .. | .polyF4R .. | .polyF4S .. | .polyF4SR .. | .polyFT4 .. | .polyFT4R ..
  | .polyFT4S .. | .polyFT4SR .. | .polyG3 .. | .polyG3R .. | .polyG3S .. | .polyG3SR .. | .polyGT3 ..
  | .polyGT3R .. | .polyGT3S .. | .polyGT3SR .. | .polyG4 .. | .polyG4R .. | .polyG4S .. | .polyG4SR ..
  | .polyGT4 .. | .polyGT4R .. | .polyGT4S .. | .polyGT4SR .. => true
  | _ => false

/-- The 16 single-segment line commands (42_primitives R210). -/
def Instr.isLine : Instr → Bool
  | .lineF .. | .lineF41 .. | .lineFS .. | .lineFS43 .. | .lineF44 .. | .lineF45 .. | .lineFS46 ..
  | .lineFS47 .. | .lineG .. | .lineG51 .. | .lineGS .. | .lineGS53 .. | .lineG54 .. | .lineG55 ..
  | .lineGS56 .. | .lineGS57 .. => true
  | _ => false

/-- The 16 polyline commands (42_primitives R210). -/
def Instr.isPolyline : Instr → Bool
  | .plineF .. | .plineF49 .. | .plineFS .. | .plineFS4B .. | .plineF4C .. | .plineF4D .. | .plineFS4E ..
  | .plineFS4F .. | .plineG .. | .plineG59 .. | .plineGS .. | .plineGS5B .. | .plineG5C .. | .plineG5D ..
  | .plineGS5E .. | .plineGS5F .. => true
  | _ => false

/-- The 32 rectangle commands (42_primitives R216). -/
def Instr.isRect : Instr → Bool
  | .rectV .. | .rectVR .. | .rectVS .. | .rectVSR .. | .rectVT .. | .rectVTR .. | .rectVTS .. | .rectVTSR ..
  | .rect1 .. | .rect1R .. | .rect1S .. | .rect1SR .. | .rect1T .. | .rect1TR .. | .rect1TS .. | .rect1TSR ..
  | .rect8 .. | .rect8R .. | .rect8S .. | .rect8SR .. | .rect8T .. | .rect8TR .. | .rect8TS .. | .rect8TSR ..
  | .rect16 .. | .rect16R .. | .rect16S .. | .rect16SR .. | .rect16T .. | .rect16TR .. | .rect16TS ..
  | .rect16TSR .. => true
  | _ => false

/-- The unknown class of the draw port, 26 rows of the opcode table (30_encoding R118). -/
def Instr.isUnknown : Instr → Bool
  | .unknown03 .. | .unknown04_07 .. | .unknown08_0F .. | .unknown10_17 .. | .unknown18_1B ..
  | .unknown1C_1D .. | .unknown1E .. | .unknown81 .. | .unknown82_83 .. | .unknown84_87 .. | .unknown88_8F ..
  | .unknown90_9F .. | .unknownA1 .. | .unknownA2_A3 .. | .unknownA4_A7 .. | .unknownA8_AF ..
  | .unknownB0_BF .. | .unknownC1 .. | .unknownC2_C3 .. | .unknownC4_C7 .. | .unknownC8_CF ..
  | .unknownD0_DF .. | .unknownE0 .. | .unknownE7 .. | .unknownE8_EF .. | .unknownF0_FF .. => true
  | _ => false

/-- The unrecognized control-port opcodes, 7 rows of the opcode table (30_encoding R119). -/
def Instr.isUnrecognized : Instr → Bool
  | .gp1Unrecognized0A .. | .gp1Unrecognized0B .. | .gp1Unrecognized0C .. | .gp1Unrecognized0D ..
  | .gp1Unrecognized0E .. | .gp1Unrecognized0F .. | .gp1Unrecognized20_3F .. => true
  | _ => false

/-- The `GET_INFO` indices that latch nothing (44_control_port R298). -/
def Instr.isEmptyQuery : Instr → Bool
  | .getInfoNone0 .. | .getInfoNone1 .. | .getInfoNone6 .. | .getInfoNone9 .. | .getInfoNoneA ..
  | .getInfoNoneB .. | .getInfoNoneC .. | .getInfoNoneD .. | .getInfoNoneE .. | .getInfoNoneF .. => true
  | _ => false

end Sys2Proof

namespace Sys2Proof.Machine

/-! ## The invariant -/

/-- A transfer rectangle is never empty and fits the grid, and its cursor is inside it (10_state R45, R46,
43_vram_copy R241). -/
def Cursor.wf (c : Cursor) : Prop := 1 ≤ c.w ∧ c.w ≤ 1024 ∧ 1 ≤ c.h ∧ c.h ≤ 512 ∧ c.cx < c.w ∧ c.cy < c.h

/-- The decoder between transactions: no argument held outside `Accum`; in `Accum` a class and a count that the command
word gives, and fewer arguments than that (10_state R42 to R44, 40_command_decoder R141). -/
def Decoder.wf (d : Decoder) : Prop :=
  match d.state with
  | .idle => d.argLen = 0
  | .transfer => d.argLen = 0
  | .accum => kindOf (opOf d.cmdWord) = some d.kind ∧ d.argExpected = argCount (opOf d.cmdWord)
      ∧ d.argLen < d.argExpected

/-- What every reachable state satisfies. -/
structure State.Inv (s : State) : Prop where
  /-- memory in canonical form -/
  vram : s.vram.wf = true
  /-- 40_command_decoder R141 -/
  dec : s.dec.wf
  /-- 10_state R45: the write registers are meaningful while `dec_state = Transfer` -/
  wr : s.dec.state = .transfer → s.wr.wf
  /-- 10_state R46: the read registers are meaningful while `read_mode = VramTransfer` -/
  rd : s.readMode = .vramTransfer → s.rd.wf
  /-- the constraints of 00_scope R5 -/
  cfg : s.cfg.wf = true
  /-- 46_timing_engine R341 -/
  dot : s.timing.dot < s.cfg.dotsPerLine
  /-- 10_state R49, 46_timing_engine R342: below the larger of the two totals -/
  line : s.timing.line < max 263 s.cfg.linesTotalPal

/-- The decoder is in `st` with nothing held; `dec_kind` is don't care (10_state R44, 40_command_decoder R136). -/
structure Decoder.IsCleared (d : Decoder) (st : DecState) : Prop where
  state : d.state = st
  cmdWord : d.cmdWord = 0#32
  argBuf : d.argBuf = Vector.replicate 16 0#32
  argLen : d.argLen = 0
  argExpected : d.argExpected = 0

/-- The six transaction kinds: a 32-bit access at offset 0 or 4, a time step, a backend write (00_scope R3,
20_memory R63). -/
def isDefinedAccess : Transaction → Bool
  | .write offset size _ => (offset == 0 || offset == 4) && size == .word
  | .read offset size => (offset == 0 || offset == 4) && size == .word
  | .elapse _ => true
  | .backend .. => true

/-! ## Runs -/

/-- `n` steps in a row. -/
def runSteps : Nat → State → Result
  | 0, s => .next s
  | n + 1, s =>
    match step s with
    | .next t => runSteps n t
    | .fault f => .fault f
    | .refused r => .refused r

/-- Some instructions in a row. -/
def runInstrs : List Instr → State → Result
  | [], s => .next s
  | i :: rest, s =>
    match exec i s with
    | .next t => runInstrs rest t
    | .fault f => .fault f
    | .refused r => .refused r

/-- Draw-port writes of some words. -/
def drawWrites (ws : List Word) : List Transaction := ws.map (Transaction.write 0 .word)

/-- A polyline's argument list that ends its accumulation, and does so with its last word: a terminator, or the 16th
word (40_command_decoder R135, R141). -/
def endsPolyline (cfg : Config.Params) (args : List Word) : Prop :=
  (∀ w ∈ args.dropLast, isTerminator cfg w = false)
    ∧ (args.length = Config.argBufWords ∨ ∃ w, args.getLast? = some w ∧ isTerminator cfg w = true)

/-! ## Primitives over argument words (42_primitives) -/

/-- `Coord(word)` for one half-word and one offset register (42_primitives R191). -/
def coordOf (s : State) (field : Half) (off : BitVec 11) : Int := (field.setWidth s.cfg.coordBits).toInt + off.toInt

/-- A vertex record from a colour word, a VERTEX word and a TEXCOORD word (42_primitives R194, R195). -/
def wordVertex (s : State) (f : PrimFlags) (t : Texture) (color : Word) (pos tex : Word) : Vertex where
  x := coordOf s (pos.extractLsb' 0 16) s.bank.offX
  y := coordOf s (pos.extractLsb' 16 16) s.bank.offY
  color := ⟨color.extractLsb' 0 8, color.extractLsb' 8 8, color.extractLsb' 16 8⟩
  u := tex.extractLsb' 0 8
  v := tex.extractLsb' 8 8
  texture := t
  flags := f
  snapshot := ⟨s.bank.texWindow, s.bank.setMask, s.bank.checkMask⟩

/-- The loop of `POLYGON`: (colour word, VERTEX word, TEXCOORD word) of vertices `i` to `i + n - 1`; the TEXCOORD word
is 0 when there is none (42_primitives R200). -/
def polygonLoop (op : Opcode) (lead : Word) : Nat → Nat → List Word → List (Word × Word × Word)
  | _, 0, _ => []
  | i, n + 1, a =>
    let own := op.getLsbD 4 && decide (0 < i)
    let col := if own then a.headD 0#32 else lead
    let a := if own then a.tail else a
    let tex := if op.getLsbD 2 then a.tail.headD 0#32 else 0#32
    (col, a.headD 0#32, tex) :: polygonLoop op lead (i + 1) n (if op.getLsbD 2 then a.tail.tail else a.tail)

/-- The records of a polygon command (42_primitives R200, R201, R202). -/
def polygonRecords (s : State) (cmd : Word) (args : List Word) : List Emission :=
  let op := opOf cmd
  let f : PrimFlags := ⟨op.getLsbD 1, op.getLsbD 0, op.getLsbD 4, s.bank.drawMode.getLsbD 9⟩
  let corners := polygonLoop op cmd 0 (if op.getLsbD 3 then 4 else 3) args
  let attr (i : Nat) : Half := (corners.getD i (0#32, 0#32, 0#32)).2.2.extractLsb' 16 16
  let t : Texture :=
    if op.getLsbD 2 then ⟨attr 0, attr 1, depthOf ((attr 1).extractLsb' 7 2)⟩ else ⟨0#16, 0#16, .untextured⟩
  match corners.map fun k => wordVertex s f t k.1 k.2.1 k.2.2 with
  | [v0, v1, v2] => [.triangle v0 v1 v2]
  | [v0, v1, v2, v3] => [.triangle v0 v1 v2, .triangle v1 v2 v3]
  | _ => []

/-- A segment of a line command between two VERTEX words with their colour words (42_primitives R205, R207, R209). -/
def segmentRecord (s : State) (op : Opcode) (p0 c0 p1 c1 : Word) : Emission :=
  let f : PrimFlags := ⟨op.getLsbD 1, false, op.getLsbD 4, s.bank.drawMode.getLsbD 9⟩
  let t : Texture := ⟨0#16, 0#16, .untextured⟩
  .lineSegment (wordVertex s f t c0 p0 0#32) (wordVertex s f t c1 p1 0#32)

/-- The record of a single-segment line command (42_primitives R205). -/
def lineWordRecord (s : State) (cmd : Word) (args : List Word) : Emission :=
  let a (i : Nat) : Word := args.getD i 0#32
  if (opOf cmd).getLsbD 4 then segmentRecord s (opOf cmd) (a 0) cmd (a 2) (a 1)
  else segmentRecord s (opOf cmd) (a 0) cmd (a 1) cmd

/-- The loop of `POLYLINE` from segment `i` on, `fuel` segments at most: `p` is the pointer, `n` the number of data
words, `p1` and `c1` the end of the segment before (42_primitives R206). -/
def polylineLoop (seg : Word → Word → Word → Word → Emission) (gouraud : Bool) (lead : Word) (a : Nat → Word) (n : Nat) :
    Nat → Nat → Nat → Word → Word → List Emission
  | 0, _, _, _, _ => []
  | fuel + 1, i, p, p1, c1 =>
    let g := if gouraud then 1 else 0
    let need := (if i = 0 then 2 else 1) + g
    if n < p + need then []
    else
      let first := if i = 0 then p + 1 else p
      let p0 := if i = 0 then a p else p1
      let c0 := if i = 0 then lead else c1
      let col := if gouraud then a first else lead
      let pos := a (first + g)
      seg p0 c0 pos col :: polylineLoop seg gouraud lead a n fuel (i + 1) (first + g + 1) pos col

/-- The number of data words of a polyline: all, less a terminator in the last place (42_primitives R206). -/
def polylineDataCount (cfg : Config.Params) (args : List Word) : Nat :=
  if isTerminator cfg (args.getLastD 0#32) && decide (0 < args.length) then args.length - 1 else args.length

/-- The records of a polyline command (42_primitives R206). -/
def polylineWordRecords (s : State) (cmd : Word) (args : List Word) : List Emission :=
  polylineLoop (segmentRecord s (opOf cmd)) ((opOf cmd).getLsbD 4) cmd (args.getD · 0#32)
    (polylineDataCount s.cfg args) 15 0 0 0#32 0#32

/-- The record of a rectangle command (42_primitives R214, R215). -/
def rectWordRecord (s : State) (cmd : Word) (args : List Word) : Emission :=
  let op := opOf cmd
  let a (i : Nat) : Word := args.getD i 0#32
  let size := op.extractLsb' 3 2
  let tex := if op.getLsbD 2 then a 1 else 0#32
  let z := if op.getLsbD 2 then a 2 else a 1
  let fixed : Int := if size = 1#2 then 1 else if size = 2#2 then 8 else 16
  let v := wordVertex s ⟨op.getLsbD 1, op.getLsbD 0, false, false⟩
    (if op.getLsbD 2 then
      ⟨tex.extractLsb' 16 16, s.bank.drawMode.extractLsb' 0 16, depthOf (s.bank.drawMode.extractLsb' 7 2)⟩
    else ⟨0#16, 0#16, .untextured⟩) cmd (a 0) tex
  .rectQuad {
    x := v.x, y := v.y
    w := if size = 0#2 then (z.extractLsb' 0 10).toInt else fixed
    h := if size = 0#2 then (z.extractLsb' 16 10).toInt else fixed
    color := v.color, u := v.u, v := v.v, texture := v.texture, flags := v.flags, snapshot := v.snapshot }

/-! ## The framebuffer as a function of its cells -/

/-- The 16-bit cells of the grid (10_state R52). -/
abbrev Grid := BitVec 10 → BitVec 9 → Half

/-- The cells a memory holds. -/
def Memory.grid (m : Memory) : Grid := fun x y => m.fbRead x y

/-- `FbWriteMasked` (20_memory R69). -/
def Grid.storeMasked (g : Grid) (x : BitVec 10) (y : BitVec 9) (v : Half) (sm cm : Bool) : Grid := fun x' y' =>
  if x' = x ∧ y' = y ∧ ¬ (cm = true ∧ (g x y).getLsbD 15 = true) then
    BitVec.ofBool (v.getLsbD 15 || sm) ++ v.extractLsb' 0 15
  else g x' y'

/-- The cell at place `k` in raster order of a rectangle of width `w` at (x0, y0) (43_vram_copy R242, R246). -/
def rasterCell (x0 : BitVec 10) (y0 : BitVec 9) (w k : Nat) : BitVec 10 × BitVec 9 :=
  (x0 + BitVec.ofNat 10 (k % w), y0 + BitVec.ofNat 9 (k / w))

/-- The loops of `COPY_VRAM_VRAM`, cell after cell in raster order (43_vram_copy R252, R254). -/
def Grid.copy (sm cm : Bool) (sx : BitVec 10) (sy : BitVec 9) (dx : BitVec 10) (dy : BitVec 9) (w h : Nat) (g : Grid) :
    Grid :=
  (List.range (w * h)).foldl (fun g k =>
    let src := rasterCell sx sy w k
    let dst := rasterCell dx dy w k
    g.storeMasked dst.1 dst.2 (g src.1 src.2) sm cm) g

/-- A cursor at place `k` in raster order. -/
def Cursor.atPlace (c : Cursor) (k : Nat) : Cursor := { c with cx := k % c.w, cy := k / c.w }

/-- The place of a cursor in raster order. -/
def Cursor.place (c : Cursor) : Nat := c.cy * c.w + c.cx

end Sys2Proof.Machine
end

