-- ==== Sys2Proof/Certificates/Slice0/Obligations.lean ====
section
/-! DEFINITION. The statements for the provers. -/

section

open Sys2Proof Sys2Proof.Machine

/-! ## Reset -/

/-- 70_reset_and_hazards R391: every state element after power-on, and that no step clears `fault`. VRAM is unspecified
and not spoken of. -/
def Obligations.PowerOnStateIsZero : Prop :=
  State.reset.bank =
      { drawMode := 0#24, texWindow := 0#24, setMask := false, checkMask := false, clipLeft := 0#10, clipTop := 0#10
        clipRight := 0#10, clipBottom := 0#10, offX := 0#11, offY := 0#11, displayEnable := false, dmaDir := 0#2
        dispStartX := 0#10, dispStartY := 0#9, hrangeX1 := 0#12, hrangeX2 := 0#12, vrangeY1 := 0#10, vrangeY2 := 0#10
        dispMode := 0#24, irqLatch := false, texDisableAllowed := false }
    ∧ State.reset.dec.IsCleared .idle
    ∧ State.reset.wr = { x0 := 0#10, y0 := 0#9, w := 0, h := 0, cx := 0, cy := 0 }
    ∧ State.reset.rd = { x0 := 0#10, y0 := 0#9, w := 0, h := 0, cx := 0, cy := 0 }
    ∧ State.reset.readMode = .normal ∧ State.reset.readLatch = 0#32
    ∧ State.reset.timing = { dot := 0, line := 0, frame := 0#32, odd := false }
    ∧ State.reset.fault = false ∧ irqRequest State.reset = false
    ∧ State.reset.emissions = [] ∧ State.reset.diags = []
    ∧ ∀ s t : State, step s = .next t → s.fault = true → t.fault = true

/-- 70_reset_and_hazards R395, which the spec marks as its inference from R326 and R53: the status word after each
reset. -/
def Obligations.ResetStatusWord : Prop :=
  statusWord State.reset = 0x1C802000#32
    ∧ ∀ s : State, s.fault = false →
        ∃ t, exec .reset s = .next t ∧ statusWord t = if s.timing.odd then 0x9C802000#32 else 0x1C802000#32

/-- The power-on state satisfies the invariant. It rests on the model's parameters at reset (log entries 4, 5, 6) and holds
whatever VRAM contains (log entry 7). -/
def Obligations.PowerOnStateSatisfiesInvariant : Prop := State.reset.Inv

/-- 44_control_port R281: what `RESET` writes, and that it changes nothing else; `dec_kind` is left open (10_state R44).
Its word runs it in any state of the decoder, whatever the ignored bits. -/
def Obligations.ControlResetClearsRegisters : Prop :=
  ∀ s : State, s.fault = false →
    (∀ (top : BitVec 2) (arg : BitVec 24) (rest : List Transaction),
      s.pending = .write 4 .word (top ++ (0x00#6 ++ arg)) :: rest → step s = exec .reset { s with pending := rest })
    ∧ ∃ d : Decoder, d.IsCleared .idle ∧
      exec .reset s = .next { s with
        bank :=
          { drawMode := 0#24, texWindow := 0#24, setMask := false, checkMask := false, clipLeft := 0#10
            clipTop := 0#10, clipRight := 0#10, clipBottom := 0#10, offX := 0#11, offY := 0#11
            displayEnable := false, dmaDir := 0#2, dispStartX := 0#10, dispStartY := 0#9, hrangeX1 := 0#12
            hrangeX2 := 0#12, vrangeY1 := 0#10, vrangeY2 := 0#10, dispMode := 0#24, irqLatch := false
            texDisableAllowed := false }
        dec := d
        wr := { x0 := 0#10, y0 := 0#9, w := 0, h := 0, cx := 0, cy := 0 }
        rd := { x0 := 0#10, y0 := 0#9, w := 0, h := 0, cx := 0, cy := 0 }
        readMode := .normal }

/-- 44_control_port R282: the three behaviours of `RESET_CMDBUF`, by the parameter `GP1_01_BEHAVIOUR`. Under `fatal`
the event of the diagnostic stream is left open. -/
def Obligations.CommandBufferResetBehaviours : Prop :=
  ∀ (word : Word) (s : State), s.fault = false →
    (s.cfg.commandBufferReset = .clear →
      ∃ d : Decoder, d.IsCleared .idle ∧
        exec (.resetCmdbuf word) s = .next { s with
          dec := d, wr := { x0 := 0#10, y0 := 0#9, w := 0, h := 0, cx := 0, cy := 0 } })
    ∧ (s.cfg.commandBufferReset = .noop → exec (.resetCmdbuf word) s = .next s)
    ∧ (s.cfg.commandBufferReset = .fatal →
      ∃ events, exec (.resetCmdbuf word) s = .next { s with fault := true, diags := s.diags ++ events })

/-! ## Encoding -/

/-- Every well-formed instruction is what its own words decode to. The encoder writes ignored bits as 0. -/
def Obligations.DecodeOfEncode : Prop := ∀ i : Instr, i.wellFormed = true → decode (encode i) = .ok i

/-- Whatever the decoder answers is well-formed. -/
def Obligations.DecodedInstructionsAreWellFormed : Prop :=
  ∀ (ts : List Transaction) (i : Instr), decode ts = .ok i → i.wellFormed = true

/-- Every draw-port command word is an instruction, with as many argument words as its opcode takes and no other number
(30_encoding R92, R118, 40_command_decoder R140). That any 1 to 16 words make a polyline an instruction, whether or not
they end where accumulation does, is the model's choice (log entry 20); a polyline that runs ends as R92 and R98 say. -/
def Obligations.DrawCommandLengths : Prop :=
  ∀ (w : Word) (args : List Word),
    (∃ i, decode (drawWrites (w :: args)) = .ok i) ↔
      (if 0x40 ≤ (opOf w).toNat ∧ (opOf w).toNat ≤ 0x5F ∧ (opOf w).getLsbD 3 = true then
        1 ≤ args.length ∧ args.length ≤ 16
      else args.length = argCount (opOf w))

/-- 40_command_decoder R140: the argument count of each class, by opcode range, and its bounds. -/
def Obligations.ArgumentCounts : Prop :=
  ∀ op : Opcode,
    (kindOf op = some .fill ↔ op = 0x02#8)
    ∧ (kindOf op = some .polygon ↔ 0x20 ≤ op.toNat ∧ op.toNat ≤ 0x3F)
    ∧ (kindOf op = some .line ↔ 0x40 ≤ op.toNat ∧ op.toNat ≤ 0x5F)
    ∧ (kindOf op = some .rect ↔ 0x60 ≤ op.toNat ∧ op.toNat ≤ 0x7F)
    ∧ (kindOf op = some .copyVramVram ↔ op = 0x80#8)
    ∧ (kindOf op = some .copyCpuVram ↔ op = 0xA0#8)
    ∧ (kindOf op = some .copyVramCpu ↔ op = 0xC0#8)
    ∧ (kindOf op = some .fill → argCount op = 2)
    ∧ (kindOf op = some .polygon →
        argCount op = (if op.getLsbD 3 then 4 else 3) * (1 + (op.getLsbD 2).toNat)
          + (op.getLsbD 4).toNat * ((if op.getLsbD 3 then 4 else 3) - 1))
    ∧ (kindOf op = some .line → argCount op = if op.getLsbD 3 then 16 else 2 + (op.getLsbD 4).toNat)
    ∧ (kindOf op = some .rect →
        argCount op = 1 + (op.getLsbD 2).toNat + (if op.getLsbD 4 = false ∧ op.getLsbD 3 = false then 1 else 0))
    ∧ (kindOf op = some .copyVramVram → argCount op = 3)
    ∧ (kindOf op = some .copyCpuVram → argCount op = 2)
    ∧ (kindOf op = some .copyVramCpu → argCount op = 2)
    ∧ (kindOf op ≠ none → 1 ≤ argCount op ∧ argCount op ≤ 16)

/-- Words written out from the spec's encodings decode to the instructions they stand for. -/
def Obligations.WrittenOutWordsDecode : Prop :=
  decode (drawWrites [0x02FF8040#32, 0x00100020#32, 0x00020011#32])
      = .ok (.fillRect 0xFF8040#24 ⟨0x0020#16, 0x0010#16⟩ ⟨0x0011#16, 0x0002#16⟩)
    ∧ decode (drawWrites [0x24FFFFFF#32, 0x00000000#32, 0x12340102#32, 0x00000008#32, 0x01000304#32, 0x00080000#32,
        0xFFFF0506#32])
      = .ok (.polyFT3 0xFFFFFF#24 ⟨0x0000#16, 0x0000#16⟩ ⟨0x02#8, 0x01#8, 0x1234#16⟩ ⟨0x0008#16, 0x0000#16⟩
          ⟨0x04#8, 0x03#8, 0x0100#16⟩ ⟨0x0000#16, 0x0008#16⟩ ⟨0x06#8, 0x05#8, 0xFFFF#16⟩)
    ∧ decode (drawWrites [0x520000FF#32, 0x55555555#32, 0x00FF0000#32, 0x50005000#32])
      = .ok (.lineGS 0x0000FF#24 ⟨0x5555#16, 0x5555#16⟩ 0xFF0000#24 ⟨0x5000#16, 0x5000#16⟩)
    ∧ decode (drawWrites [0x67808080#32, 0x00000000#32, 0x3FC01020#32, 0x00100020#32])
      = .ok (.rectVTSR 0x808080#24 ⟨0x0000#16, 0x0000#16⟩ ⟨0x20#8, 0x10#8, 0x3FC0#16⟩ ⟨0x0020#16, 0x0010#16⟩)
    ∧ decode (drawWrites [0x80FFFFFF#32, 0x000003FF#32, 0x00100010#32, 0x00010002#32])
      = .ok (.copyVramVram 0xFFFFFF#24 ⟨0x03FF#16, 0x0000#16⟩ ⟨0x0010#16, 0x0010#16⟩ ⟨0x0002#16, 0x0001#16⟩)
    ∧ decode (drawWrites [0xE403C13F#32]) = .ok (.setClipBr 0x13F#10 0x0F0#10)
    ∧ decode (drawWrites [0xE5FFF810#32]) = .ok (.setOffset 0x010#11 0x7FF#11)
    ∧ decode [.write 4 .word 0x06C60260#32] = .ok (.hRange 0x260#12 0xC60#12)
    ∧ decode [.write 4 .word 0xC5002C10#32] = .ok (.displayStart 16#10 11#9)
    ∧ decode [.write 4 .word 0x1FFFFFF5#32] = .ok .getInfoOffset
    ∧ decode [.read 0 .word] = .ok .readData ∧ decode [.read 4 .word] = .ok .readStatus

/-! ## Steps -/

/-- A step runs the decoded instruction on the state without the transaction it took: a transaction that is an
instruction by itself (for a draw-port word, while the decoder is idle), or the word that completes a draw command,
with that word stored. The pending list is the model's (log entry 1). -/
def Obligations.StepRunsDecodedInstruction : Prop :=
  (∀ (s : State) (t : Transaction) (rest : List Transaction) (i : Instr),
    s.fault = false → s.pending = t :: rest → decode [t] = .ok i →
    ((∃ w, t = .write 0 .word w) → s.dec.state = .idle) →
    step s = exec i { s with pending := rest })
  ∧ (∀ (s : State) (w : Word) (rest : List Transaction) (i : Instr),
    s.fault = false → s.pending = .write 0 .word w :: rest → s.dec.state = .accum →
    kindOf (opOf s.dec.cmdWord) = some s.dec.kind → s.dec.argLen < 16 →
    (s.dec.argLen + 1 = s.dec.argExpected
      ∨ (s.dec.kind = .line ∧ s.dec.cmdWord.getLsbD 27 = true ∧ isTerminator s.cfg w = true)) →
    decode (drawWrites (s.dec.cmdWord :: (s.dec.argBuf.toList.take s.dec.argLen ++ [w]))) = .ok i →
    step s = exec i { s with
      pending := rest
      dec := { s.dec with
        argBuf := s.dec.argBuf.setIfInBounds s.dec.argLen w
        argLen := s.dec.argLen + 1
        argExpected := s.dec.argLen + 1 } })

/-- An instruction's words, pending in order at an idle decoder, run that instruction: as many steps as it has
transactions give what `exec` gives, on a state that differs in the decoder's contents only (not even there, for an
instruction of one transaction). A polyline's words must end where accumulation does. -/
def Obligations.InstructionStreamRuns : Prop :=
  ∀ (i : Instr) (s : State) (rest : List Transaction),
    i.wellFormed = true → s.fault = false → s.dec.state = .idle → s.pending = encode i ++ rest →
    (i.isPolyline = true → ∀ cmd args, encode i = drawWrites (cmd :: args) → endsPolyline s.cfg args) →
    ∃ d : Decoder, ((encode i).length = 1 → d = s.dec)
      ∧ runSteps (encode i).length s = exec i { s with pending := rest, dec := d }

/-- 40_command_decoder R133, R131: the command word of a multi-argument class is stored and nothing else happens. -/
def Obligations.CommandWordOnlyArmsDecoder : Prop :=
  ∀ (s : State) (w : Word) (rest : List Transaction) (k : DecKind),
    s.fault = false → s.pending = .write 0 .word w :: rest → s.dec.state = .idle → kindOf (opOf w) = some k →
    step s = .next { s with
      pending := rest
      dec := { s.dec with
        state := .accum, kind := k, cmdWord := w, argLen := 0, argExpected := argCount (opOf w) } }

/-- 40_command_decoder R134, and R145, which the spec marks as its inference from it: an argument word that does not
complete the command is stored whatever its value, and nothing else happens. -/
def Obligations.ArgumentWordIsOnlyStored : Prop :=
  ∀ (s : State) (w : Word) (rest : List Transaction),
    s.fault = false → s.pending = .write 0 .word w :: rest → s.dec.state = .accum → s.dec.argLen < 16 →
    s.dec.argLen + 1 ≠ s.dec.argExpected →
    ¬ (s.dec.kind = .line ∧ s.dec.cmdWord.getLsbD 27 = true ∧ isTerminator s.cfg w = true) →
    step s = .next { s with
      pending := rest
      dec := { s.dec with
        argBuf := s.dec.argBuf.setIfInBounds s.dec.argLen w, argLen := s.dec.argLen + 1 } }

/-- 40_command_decoder R135: a terminator ends a polyline early, at any position, and the command draws in the same
transaction. -/
def Obligations.TerminatorEndsPolyline : Prop :=
  ∀ (s : State) (w : Word) (rest : List Transaction),
    s.fault = false → s.pending = .write 0 .word w :: rest → s.dec.wf → s.dec.state = .accum →
    s.dec.kind = .line → s.dec.cmdWord.getLsbD 27 = true → (w = s.cfg.termA ∨ w = s.cfg.termB) →
    ∃ d : Decoder, d.IsCleared .idle ∧
      step s = .next { s with
        pending := rest
        dec := d
        emissions := s.emissions
          ++ polylineWordRecords s s.dec.cmdWord (s.dec.argBuf.toList.take s.dec.argLen ++ [w]) }

/-- In an invariant state that is not fatal, every defined transaction completes: the step answers a next state. -/
def Obligations.DefinedTransactionsComplete : Prop :=
  ∀ (s : State) (t : Transaction) (rest : List Transaction),
    s.Inv → s.fault = false → s.pending = t :: rest → isDefinedAccess t = true → ∃ u, step s = .next u

/-- Every step keeps the invariant. -/
def Obligations.EveryStepKeepsInvariant : Prop := ∀ s t : State, s.Inv → step s = .next t → t.Inv

/-- 44_control_port R299: an unrecognized control-port word sets `fault` and changes no other state (the diagnostic
stream may get events). That after it every transaction and every instruction is refused, by the name `afterFatal`, is
the model's choice of the two that 60_exceptions R362 leaves (log entry 11). -/
def Obligations.FatalIsSticky : Prop :=
  (∀ (s : State) (w : Word) (rest : List Transaction),
    s.fault = false → s.pending = .write 4 .word w :: rest →
    ((0x0A ≤ (w.extractLsb' 24 6).toNat ∧ (w.extractLsb' 24 6).toNat ≤ 0x0F) ∨ 0x20 ≤ (w.extractLsb' 24 6).toNat) →
    ∃ events, step s = .next { s with pending := rest, fault := true, diags := s.diags ++ events })
  ∧ (∀ (s : State) (t : Transaction) (rest : List Transaction),
    s.fault = true → s.pending = t :: rest → step s = .refused .afterFatal)
  ∧ (∀ (i : Instr) (s : State), s.fault = true → exec i s = .refused .afterFatal)

/-- 20_memory R63: an access that is not a 32-bit access at offset 0 or 4 is refused. -/
def Obligations.OtherPortAccessesAreRefused : Prop :=
  ∀ (s : State) (t : Transaction) (rest : List Transaction),
    s.fault = false → s.pending = t :: rest → isDefinedAccess t = false → step s = .refused .portAccess

/-! ## Single-word draw commands -/

/-- 41_gp0_immediate R160, R161: `NOP` and `CLEAR_CACHE` change nothing; so do their words at an idle decoder,
whatever their parameter. -/
def Obligations.NopAndClearCacheDoNothing : Prop :=
  ∀ s : State, s.fault = false →
    exec .nop s = .next s ∧ exec .clearCache s = .next s
    ∧ ∀ (p : BitVec 24) (rest : List Transaction), s.dec.state = .idle →
      (s.pending = .write 0 .word (0x00#8 ++ p) :: rest → step s = .next { s with pending := rest })
      ∧ (s.pending = .write 0 .word (0x01#8 ++ p) :: rest → step s = .next { s with pending := rest })

/-- 41_gp0_immediate R162, 44_control_port R283: the latch is set and acknowledged; the output and status bit 24
follow. -/
def Obligations.IrqLatchSetAndAcknowledged : Prop :=
  ∀ s : State, s.fault = false →
    (∃ t, t = { s with bank := { s.bank with irqLatch := true } } ∧ exec .irqRequest s = .next t
      ∧ irqRequest t = true ∧ (statusWord t).getLsbD 24 = true)
    ∧ (∃ t, t = { s with bank := { s.bank with irqLatch := false } } ∧ exec .ackIrq s = .next t
      ∧ irqRequest t = false ∧ (statusWord t).getLsbD 24 = false)

/-- The six mode-setting commands of the draw port and seven commands of the control port write their registers and
nothing else (41_gp0_immediate R163 to R168, 44_control_port R284 to R290). -/
def Obligations.RegisterCommandsWriteRegisters : Prop :=
  ∀ s : State, s.fault = false →
    (∀ param, exec (.setDrawMode param) s = .next { s with bank := { s.bank with drawMode := param } })
    ∧ (∀ param, exec (.setTexWindow param) s = .next { s with bank := { s.bank with texWindow := param } })
    ∧ (∀ x y, exec (.setClipTl x y) s = .next { s with bank := { s.bank with clipLeft := x, clipTop := y } })
    ∧ (∀ x y, exec (.setClipBr x y) s = .next { s with bank := { s.bank with clipRight := x, clipBottom := y } })
    ∧ (∀ x y, exec (.setOffset x y) s = .next { s with bank := { s.bank with offX := x, offY := y } })
    ∧ (∀ m c, exec (.setMask m c) s = .next { s with bank := { s.bank with setMask := m, checkMask := c } })
    ∧ (∀ off, exec (.displayEnable off) s = .next { s with bank := { s.bank with displayEnable := !off } })
    ∧ (∀ dir, exec (.dmaDirection dir) s = .next { s with bank := { s.bank with dmaDir := dir } })
    ∧ (∀ x y, exec (.displayStart x y) s = .next { s with bank := { s.bank with dispStartX := x, dispStartY := y } })
    ∧ (∀ x1 x2, exec (.hRange x1 x2) s = .next { s with bank := { s.bank with hrangeX1 := x1, hrangeX2 := x2 } })
    ∧ (∀ y1 y2, exec (.vRange y1 y2) s = .next { s with bank := { s.bank with vrangeY1 := y1, vrangeY2 := y2 } })
    ∧ (∀ arg, exec (.displayMode arg) s = .next { s with bank := { s.bank with dispMode := arg } })
    ∧ (∀ allow, exec (.texDisableAllow allow) s = .next { s with bank := { s.bank with texDisableAllowed := allow } })

/-- 41_gp0_immediate R163 to R168, from the written word: each of 0xE1 to 0xE6, at an idle decoder, stores the fields
of its parameter in its registers within its own transaction, the ignored bits of the word having no effect. -/
def Obligations.SettingWordsWriteRegisters : Prop :=
  ∀ (s : State) (p : BitVec 24) (rest : List Transaction),
    s.fault = false → s.dec.state = .idle →
    (s.pending = .write 0 .word (0xE1#8 ++ p) :: rest →
      step s = .next { s with pending := rest, bank := { s.bank with drawMode := p } })
    ∧ (s.pending = .write 0 .word (0xE2#8 ++ p) :: rest →
      step s = .next { s with pending := rest, bank := { s.bank with texWindow := p } })
    ∧ (s.pending = .write 0 .word (0xE3#8 ++ p) :: rest →
      step s = .next { s with
        pending := rest, bank := { s.bank with clipLeft := p.extractLsb' 0 10, clipTop := p.extractLsb' 10 10 } })
    ∧ (s.pending = .write 0 .word (0xE4#8 ++ p) :: rest →
      step s = .next { s with
        pending := rest, bank := { s.bank with clipRight := p.extractLsb' 0 10, clipBottom := p.extractLsb' 10 10 } })
    ∧ (s.pending = .write 0 .word (0xE5#8 ++ p) :: rest →
      step s = .next { s with
        pending := rest, bank := { s.bank with offX := p.extractLsb' 0 11, offY := p.extractLsb' 11 11 } })
    ∧ (s.pending = .write 0 .word (0xE6#8 ++ p) :: rest →
      step s = .next { s with
        pending := rest, bank := { s.bank with setMask := p.getLsbD 0, checkMask := p.getLsbD 1 } })

/-- 41_gp0_immediate R169: each instruction of the unknown class adds one diagnostic event with its whole word. -/
def Obligations.UnknownCommandsLogOneEvent : Prop :=
  ∀ (i : Instr) (w : Word) (s : State),
    i.isUnknown = true → encode i = [.write 0 .word w] → s.fault = false →
    exec i s = .next { s with diags := s.diags ++ [.diag .unknownGp0Opcode w] }

/-- 60_exceptions R363, 30_encoding R118: a command word adds the unknown-opcode event exactly when its high byte is
one of the 147 values, and then nothing else happens. -/
def Obligations.UnknownOpcodesAreTheListedOnes : Prop :=
  ∀ (s : State) (w : Word) (rest : List Transaction),
    s.fault = false → s.dec.state = .idle → s.pending = .write 0 .word w :: rest →
    ((let op := (w.extractLsb' 24 8).toNat
      (0x03 ≤ op ∧ op ≤ 0x1E) ∨ (0x81 ≤ op ∧ op ≤ 0x9F) ∨ (0xA1 ≤ op ∧ op ≤ 0xBF) ∨ (0xC1 ≤ op ∧ op ≤ 0xE0)
        ∨ 0xE7 ≤ op) →
      step s = .next { s with pending := rest, diags := s.diags ++ [.diag .unknownGp0Opcode w] })
    ∧ (¬ (let op := (w.extractLsb' 24 8).toNat
      (0x03 ≤ op ∧ op ≤ 0x1E) ∨ (0x81 ≤ op ∧ op ≤ 0x9F) ∨ (0xA1 ≤ op ∧ op ≤ 0xBF) ∨ (0xC1 ≤ op ∧ op ≤ 0xE0)
        ∨ 0xE7 ≤ op) →
      ∃ t, step s = .next t ∧ t.diags = s.diags)

/-! ## Primitives -/

/-- 42_primitives R190: each 8-bit channel truncated to its top 5 bits, bit 15 zero. -/
def Obligations.ColourConversionTruncates : Prop :=
  ∀ r g b : BitVec 8,
    (to15 (b ++ (g ++ r))).toNat = r.toNat / 8 + g.toNat / 8 * 32 + b.toNat / 8 * 1024

/-- 42_primitives R197, R198: `FILL_RECT` stores the colour in every cell of its rectangle, whatever the mask bits and
the mask controls, and in no other; it changes no register. -/
def Obligations.FillWritesItsRectangle : Prop :=
  ∀ (c : Color) (pos size : PairWord) (s : State), s.fault = false → s.vram.wf = true →
    let x0 := pos.lo.toNat % 1024 / 16 * 16
    let y0 := pos.hi.toNat % 512
    let w := (size.lo.toNat % 1024 + 15) / 16 * 16
    let h := size.hi.toNat % 512
    let inside (x : BitVec 10) (y : BitVec 9) : Prop :=
      x0 ≤ x.toNat ∧ x.toNat < x0 + w ∧ y0 ≤ y.toNat ∧ y.toNat < y0 + h
    ∃ (m : Memory) (d : Decoder), d.IsCleared .idle ∧ m.wf = true
      ∧ exec (.fillRect c pos size) s = .next { s with vram := m, dec := d }
      ∧ (∀ x y, inside x y → m.fbRead x y = to15 c)
      ∧ (∀ x y, ¬ inside x y → m.fbRead x y = s.vram.fbRead x y)
      ∧ (∀ a, (∀ x y, inside x y → a ≠ cellAddress x y ∧ a ≠ cellAddress x y + 1) →
          m.readByte a = s.vram.readByte a)

/-- 42_primitives R200 to R202: each of the 32 polygon commands, opcodes 0x20 to 0x3F, emits the triangles of its words
and changes nothing else but the decoder, which it leaves idle. -/
def Obligations.PolygonsEmitTheirTriangles : Prop :=
  ∀ (i : Instr) (cmd : Word) (args : List Word) (s : State),
    i.isPolygon = true → encode i = drawWrites (cmd :: args) → s.fault = false →
    0x20 ≤ (opOf cmd).toNat ∧ (opOf cmd).toNat ≤ 0x3F ∧ args.length = argCount (opOf cmd)
    ∧ ∃ d : Decoder, d.IsCleared .idle
      ∧ exec i s = .next { s with emissions := s.emissions ++ polygonRecords s cmd args, dec := d }

/-- 42_primitives R205: each of the 16 single-line commands emits its one segment; no word is taken for a
terminator. -/
def Obligations.LinesEmitTheirSegment : Prop :=
  ∀ (i : Instr) (cmd : Word) (args : List Word) (s : State),
    i.isLine = true → encode i = drawWrites (cmd :: args) → s.fault = false →
    0x40 ≤ (opOf cmd).toNat ∧ (opOf cmd).toNat ≤ 0x5F ∧ (opOf cmd).getLsbD 3 = false ∧ args.length = argCount (opOf cmd)
    ∧ ∃ d : Decoder, d.IsCleared .idle
      ∧ exec i s = .next { s with emissions := s.emissions ++ [lineWordRecord s cmd args], dec := d }

/-- 42_primitives R206: each of the 16 polyline commands emits the segments of its pseudocode. -/
def Obligations.PolylinesEmitTheirSegments : Prop :=
  ∀ (i : Instr) (cmd : Word) (args : List Word) (s : State),
    i.isPolyline = true → encode i = drawWrites (cmd :: args) → s.fault = false →
    0x40 ≤ (opOf cmd).toNat ∧ (opOf cmd).toNat ≤ 0x5F ∧ (opOf cmd).getLsbD 3 = true
    ∧ ∃ d : Decoder, d.IsCleared .idle
      ∧ exec i s = .next { s with emissions := s.emissions ++ polylineWordRecords s cmd args, dec := d }

/-- 42_primitives R208, which the spec marks as its inference from R206: how many segments a polyline of `n` data
words has: `n - 1` flat and `(n - 1) / 2` gouraud, the dangling colour dropped, at most 15. -/
def Obligations.PolylineSegmentCounts : Prop :=
  ∀ (i : Instr) (cmd : Word) (args : List Word) (s : State),
    i.isPolyline = true → encode i = drawWrites (cmd :: args) → s.fault = false →
    ∃ t, exec i s = .next t ∧ t.emissions.length = s.emissions.length
      + min 15 ((polylineDataCount s.cfg args - 1) / (if (opOf cmd).getLsbD 4 then 2 else 1))

/-- 42_primitives R214: each of the 32 rectangle commands emits its one record. -/
def Obligations.RectanglesEmitTheirRecord : Prop :=
  ∀ (i : Instr) (cmd : Word) (args : List Word) (s : State),
    i.isRect = true → encode i = drawWrites (cmd :: args) → s.fault = false →
    0x60 ≤ (opOf cmd).toNat ∧ (opOf cmd).toNat ≤ 0x7F ∧ args.length = argCount (opOf cmd)
    ∧ ∃ d : Decoder, d.IsCleared .idle
      ∧ exec i s = .next { s with emissions := s.emissions ++ [rectWordRecord s cmd args], dec := d }

/-- 42_primitives R191: with 10-bit coordinates a position lies in -1536 to 1534, the raw field and the offset each
sign-extended. -/
def Obligations.CoordinatesStayInRange : Prop :=
  ∀ (s : State) (p : VertexWord), s.cfg.coordBits = 10 →
    coordX s p = (p.x.extractLsb' 0 10).toInt + s.bank.offX.toInt
    ∧ coordY s p = (p.y.extractLsb' 0 10).toInt + s.bank.offY.toInt
    ∧ -1536 ≤ coordX s p ∧ coordX s p ≤ 1534 ∧ -1536 ≤ coordY s p ∧ coordY s p ≤ 1534

/-! ## Block copies -/

/-- 43_vram_copy R244, R243: the header of `COPY_CPU_VRAM` sets the write registers and enters the data phase; a
non-zero reserved field adds one event and blocks nothing. -/
def Obligations.UploadHeaderArmsTransfer : Prop :=
  ∀ (r : Color) (dst size : PairWord) (s : State), s.fault = false →
    ∃ d : Decoder, d.IsCleared .transfer ∧
      exec (.copyCpuVram r dst size) s = .next { s with
        dec := d
        diags := s.diags ++ if r = 0#24 then [] else [.diag .reservedFieldNonZero (0xA0#8 ++ r)]
        wr := {
          x0 := BitVec.ofNat 10 (dst.lo.toNat % 1024), y0 := BitVec.ofNat 9 (dst.hi.toNat % 512)
          w := if size.lo.toNat % 1024 = 0 then 1024 else size.lo.toNat % 1024
          h := if size.hi.toNat % 512 = 0 then 512 else size.hi.toNat % 512
          cx := 0, cy := 0 } }

/-- 43_vram_copy R249, R243: the header of `COPY_VRAM_CPU` sets the read registers and the read mode; the decoder is
idle again. -/
def Obligations.ReadbackHeaderArmsTransfer : Prop :=
  ∀ (r : Color) (src size : PairWord) (s : State), s.fault = false →
    ∃ d : Decoder, d.IsCleared .idle ∧
      exec (.copyVramCpu r src size) s = .next { s with
        dec := d
        diags := s.diags ++ if r = 0#24 then [] else [.diag .reservedFieldNonZero (0xC0#8 ++ r)]
        readMode := .vramTransfer
        rd := {
          x0 := BitVec.ofNat 10 (src.lo.toNat % 1024), y0 := BitVec.ofNat 9 (src.hi.toNat % 512)
          w := if size.lo.toNat % 1024 = 0 then 1024 else size.lo.toNat % 1024
          h := if size.hi.toNat % 512 = 0 then 512 else size.hi.toNat % 512
          cx := 0, cy := 0 } }

/-- 43_vram_copy R252, R253: `COPY_VRAM_VRAM` runs the loops of the rule over the cells, or, when a raw size exceeds
the framebuffer, writes nothing and logs; no register changes. -/
def Obligations.VramCopyRunsOrAborts : Prop :=
  ∀ (r : Color) (src dst size : PairWord) (s : State), s.fault = false → s.vram.wf = true →
    let oversize := 1024 < size.lo.toNat ∨ 512 < size.hi.toNat
    let w := if size.lo.toNat % 1024 = 0 then 1024 else size.lo.toNat % 1024
    let h := if size.hi.toNat % 512 = 0 then 512 else size.hi.toNat % 512
    let sx := BitVec.ofNat 10 (src.lo.toNat % 1024)
    let sy := BitVec.ofNat 9 (src.hi.toNat % 512)
    let dx := BitVec.ofNat 10 (dst.lo.toNat % 1024)
    let dy := BitVec.ofNat 9 (dst.hi.toNat % 512)
    ∃ (m : Memory) (d : Decoder), d.IsCleared .idle ∧ m.wf = true
      ∧ exec (.copyVramVram r src dst size) s = .next { s with
          vram := m
          dec := d
          diags := s.diags ++ (if r = 0#24 then [] else [.diag .reservedFieldNonZero (0x80#8 ++ r)])
            ++ if oversize then [.diag .copyBoundsAbort (size.hi ++ size.lo)] else [] }
      ∧ (oversize → m = s.vram)
      ∧ (¬ oversize → ∀ x y,
          m.fbRead x y = Grid.copy s.bank.setMask s.bank.checkMask sx sy dx dy w h s.vram.grid x y)
      ∧ (∀ a, (∀ k, k < w * h → a ≠ cellAddress (rasterCell dx dy w k).1 (rasterCell dx dy w k).2
            ∧ a ≠ cellAddress (rasterCell dx dy w k).1 (rasterCell dx dy w k).2 + 1) →
          m.readByte a = s.vram.readByte a)

/-- 43_vram_copy R256: with disjoint rectangles and the mask check off, every destination cell gets its source cell,
each side wrapped by itself, bit 15 or-ed with `set_mask`, and every other cell stays. -/
def Obligations.DisjointVramCopyMovesCells : Prop :=
  ∀ (src dst size : PairWord) (s : State), s.fault = false → s.vram.wf = true → s.bank.checkMask = false →
    size.lo.toNat ≤ 1024 → size.hi.toNat ≤ 512 →
    let w := if size.lo.toNat % 1024 = 0 then 1024 else size.lo.toNat % 1024
    let h := if size.hi.toNat % 512 = 0 then 512 else size.hi.toNat % 512
    let source (k : Nat) := rasterCell (src.lo.extractLsb' 0 10) (src.hi.extractLsb' 0 9) w k
    let target (k : Nat) := rasterCell (dst.lo.extractLsb' 0 10) (dst.hi.extractLsb' 0 9) w k
    (∀ k j, k < w * h → j < w * h → source k ≠ target j) →
    ∃ t, exec (.copyVramVram 0#24 src dst size) s = .next t
      ∧ (∀ k, k < w * h → t.vram.fbRead (target k).1 (target k).2
          = maskedValue (s.vram.fbRead (source k).1 (source k).2) s.bank.setMask)
      ∧ (∀ x y, (∀ k, k < w * h → target k ≠ (x, y)) → t.vram.fbRead x y = s.vram.fbRead x y)

/-- 43_vram_copy R254: a copy one column to the right over its own row reads what it has just written, so the first
cell spreads over the row. -/
def Obligations.OverlappingCopySpreadsFirstCell : Prop :=
  ∀ (x y n : Nat) (s : State), s.fault = false → s.vram.wf = true →
    s.bank.setMask = false → s.bank.checkMask = false → 1 ≤ n → x + n < 1024 → y < 512 →
    ∃ t, exec (.copyVramVram 0#24 ⟨BitVec.ofNat 16 x, BitVec.ofNat 16 y⟩ ⟨BitVec.ofNat 16 (x + 1), BitVec.ofNat 16 y⟩
        ⟨BitVec.ofNat 16 n, 1#16⟩) s = .next t
      ∧ ∀ i, i ≤ n → t.vram.fbRead (BitVec.ofNat 10 (x + i)) (BitVec.ofNat 9 y)
          = s.vram.fbRead (BitVec.ofNat 10 x) (BitVec.ofNat 9 y)

/-- 43_vram_copy R245 to R248: a data word writes its low half at the cursor, then its high half at the next place
unless the transfer is over; the transaction that writes the last cell leaves the decoder idle. -/
def Obligations.DataWordWritesTwoPixels : Prop :=
  ∀ (s : State) (word : Word) (rest : List Transaction),
    s.Inv → s.fault = false → s.dec.state = .transfer → s.pending = .write 0 .word word :: rest →
    let n := s.wr.w * s.wr.h
    let k := s.wr.place
    let c0 := rasterCell s.wr.x0 s.wr.y0 s.wr.w k
    let c1 := rasterCell s.wr.x0 s.wr.y0 s.wr.w (k + 1)
    let g0 := s.vram.grid.storeMasked c0.1 c0.2 (word.extractLsb' 0 16) s.bank.setMask s.bank.checkMask
    let g1 := g0.storeMasked c1.1 c1.2 (word.extractLsb' 16 16) s.bank.setMask s.bank.checkMask
    ∃ m : Memory, m.wf = true
      ∧ step s = .next { s with
          pending := rest
          vram := m
          wr := s.wr.atPlace (if k + 2 < n then k + 2 else 0)
          dec := { s.dec with state := if k + 2 < n then .transfer else .idle } }
      ∧ (∀ x y, m.fbRead x y = if k + 1 < n then g1 x y else g0 x y)
      ∧ (∀ a, a ≠ cellAddress c0.1 c0.2 → a ≠ cellAddress c0.1 c0.2 + 1 →
          (k + 1 < n → a ≠ cellAddress c1.1 c1.2 ∧ a ≠ cellAddress c1.1 c1.2 + 1) →
          m.readByte a = s.vram.readByte a)

/-- 43_vram_copy R259, which the spec marks as its inference from R245 to R248 and R323: a transfer of `w * h` cells,
from its first cell, ends with exactly the `ceil(w * h / 2)`-th data word, or data-port read. -/
def Obligations.TransferWordCounts : Prop :=
  (∀ (s : State) (ws : List Word) (rest : List Transaction),
    s.Inv → s.fault = false → s.dec.state = .transfer → s.wr.place = 0 → s.pending = drawWrites ws ++ rest →
    ws.length ≤ (s.wr.w * s.wr.h + 1) / 2 →
    1 ≤ (s.wr.w * s.wr.h + 1) / 2 ∧ (s.wr.w * s.wr.h + 1) / 2 ≤ 262144
      ∧ ∃ t, runSteps ws.length s = .next t ∧ t.pending = rest
        ∧ t.dec.state = if ws.length = (s.wr.w * s.wr.h + 1) / 2 then .idle else .transfer)
  ∧ (∀ (s : State) (k : Nat),
    s.Inv → s.fault = false → s.readMode = .vramTransfer → s.rd.place = 0 → k ≤ (s.rd.w * s.rd.h + 1) / 2 →
    ∃ t, runInstrs (List.replicate k .readData) s = .next t
      ∧ t.readMode = if k = (s.rd.w * s.rd.h + 1) / 2 then .normal else .vramTransfer)

/-- 43_vram_copy R260, whose exact form the spec marks as its inference: an upload followed at once by the read-back
of the same rectangle returns the written pixels, bit 15 or-ed with `set_mask`, when no write is suppressed. `pixel ws
k` is the `k`-th half-word of a list of words. -/
def Obligations.UploadThenReadbackReturnsPixels : Prop :=
  let pixel (ws : List Word) (k : Nat) : Half := (ws.getD (k / 2) 0#32).extractLsb' (16 * (k % 2)) 16
  ∀ (s : State) (pos size : PairWord) (ws : List Word) (rest : List Transaction),
    s.Inv → s.fault = false → s.dec.state = .idle →
    let n := (if size.lo.toNat % 1024 = 0 then 1024 else size.lo.toNat % 1024)
      * (if size.hi.toNat % 512 = 0 then 512 else size.hi.toNat % 512)
    ws.length = (n + 1) / 2 →
    (s.bank.checkMask = false ∨ ∀ x y, (s.vram.fbRead x y).getLsbD 15 = false) →
    s.pending = encode (.copyCpuVram 0#24 pos size) ++ drawWrites ws ++ encode (.copyVramCpu 0#24 pos size)
      ++ List.replicate ws.length (.read 0 .word) ++ rest →
    ∃ (t : State) (rs : List Word), runSteps (3 + ws.length + 3 + ws.length) s = .next t
      ∧ t.results = s.results ++ rs.map BusResult.data ∧ rs.length = ws.length
      ∧ (∀ k, k < n → pixel rs k = maskedValue (pixel ws k) s.bank.setMask)
      ∧ t.pending = rest ∧ t.dec.state = .idle ∧ t.readMode = .normal

/-! ## Reads -/

/-- 45_bus_reads R321, R322: outside a transfer `ReadData` returns the latch and changes nothing. -/
def Obligations.LatchedReadsReturnLatch : Prop :=
  ∀ s : State, s.fault = false → s.readMode ≠ .vramTransfer →
    exec .readData s = .next { s with results := s.results ++ [.data s.readLatch] }

/-- 45_bus_reads R323: a transfer read returns the cell at the cursor below and the next one above, `READ_PAD` above
when the first was the last; it is stored in the latch, the cursor moves on, and the last cell ends the transfer. -/
def Obligations.TransferReadReturnsTwoCells : Prop :=
  ∀ s : State, s.Inv → s.fault = false → s.readMode = .vramTransfer →
    let n := s.rd.w * s.rd.h
    let k := s.rd.place
    let c0 := rasterCell s.rd.x0 s.rd.y0 s.rd.w k
    let c1 := rasterCell s.rd.x0 s.rd.y0 s.rd.w (k + 1)
    let word : Word :=
      (if k + 1 < n then s.vram.fbRead c1.1 c1.2 else s.cfg.readPad) ++ s.vram.fbRead c0.1 c0.2
    exec .readData s = .next { s with
      rd := s.rd.atPlace (if k + 2 < n then k + 2 else 0)
      readMode := if k + 2 < n then .vramTransfer else .normal
      readLatch := word
      results := s.results ++ [.data word] }

/-- 45_bus_reads R325, R332: `ReadStatus` returns the status word and changes nothing. -/
def Obligations.StatusReadChangesNothing : Prop :=
  ∀ s : State, s.fault = false →
    exec .readStatus s = .next { s with results := s.results ++ [.status (statusWord s)] }

/-- 45_bus_reads R326, R329: every bit of the status word, and `data_request` by DMA direction. -/
def Obligations.StatusWordLayout : Prop :=
  ∀ s : State,
    (statusWord s).extractLsb' 0 11 = s.bank.drawMode.extractLsb' 0 11
    ∧ (statusWord s).getLsbD 11 = s.bank.setMask ∧ (statusWord s).getLsbD 12 = s.bank.checkMask
    ∧ (statusWord s).getLsbD 13 = true ∧ (statusWord s).getLsbD 14 = s.bank.dispMode.getLsbD 7
    ∧ (statusWord s).getLsbD 15 = s.bank.drawMode.getLsbD 11
    ∧ (statusWord s).getLsbD 16 = s.bank.dispMode.getLsbD 6
    ∧ (statusWord s).extractLsb' 17 2 = s.bank.dispMode.extractLsb' 0 2
    ∧ (statusWord s).getLsbD 19 = s.bank.dispMode.getLsbD 2
    ∧ (statusWord s).getLsbD 20 = s.bank.dispMode.getLsbD 3
    ∧ (statusWord s).getLsbD 21 = s.bank.dispMode.getLsbD 4
    ∧ (statusWord s).getLsbD 22 = s.bank.dispMode.getLsbD 5
    ∧ (statusWord s).getLsbD 23 = !s.bank.displayEnable ∧ (statusWord s).getLsbD 24 = s.bank.irqLatch
    ∧ (statusWord s).getLsbD 25 = dataRequest s ∧ (statusWord s).getLsbD 26 = true
    ∧ ((statusWord s).getLsbD 27 = true ↔ s.dec.state ≠ .transfer) ∧ (statusWord s).getLsbD 28 = true
    ∧ (statusWord s).extractLsb' 29 2 = s.bank.dmaDir ∧ (statusWord s).getLsbD 31 = s.timing.odd
    ∧ (s.bank.dmaDir = 0#2 → dataRequest s = false) ∧ (s.bank.dmaDir = 1#2 → dataRequest s = true)
    ∧ (s.bank.dmaDir = 2#2 → dataRequest s = true)
    ∧ (s.bank.dmaDir = 3#2 → (dataRequest s = true ↔ s.dec.state ≠ .transfer))

/-! ## Control port -/

/-- 44_control_port R283 to R290, R300, R301, from the written word: whatever the decoder's state and the two top bits,
each command stores the fields of its argument within its own transaction and leaves all else, the decoder too. -/
def Obligations.ControlWordsWriteRegisters : Prop :=
  ∀ (s : State) (top : BitVec 2) (arg : BitVec 24) (rest : List Transaction),
    s.fault = false →
    (s.pending = .write 4 .word (top ++ (0x02#6 ++ arg)) :: rest →
      step s = .next { s with pending := rest, bank := { s.bank with irqLatch := false } })
    ∧ (s.pending = .write 4 .word (top ++ (0x03#6 ++ arg)) :: rest →
      step s = .next { s with pending := rest, bank := { s.bank with displayEnable := !arg.getLsbD 0 } })
    ∧ (s.pending = .write 4 .word (top ++ (0x04#6 ++ arg)) :: rest →
      step s = .next { s with pending := rest, bank := { s.bank with dmaDir := arg.extractLsb' 0 2 } })
    ∧ (s.pending = .write 4 .word (top ++ (0x05#6 ++ arg)) :: rest →
      step s = .next { s with
        pending := rest
        bank := { s.bank with dispStartX := arg.extractLsb' 0 10, dispStartY := arg.extractLsb' 10 9 } })
    ∧ (s.pending = .write 4 .word (top ++ (0x06#6 ++ arg)) :: rest →
      step s = .next { s with
        pending := rest, bank := { s.bank with hrangeX1 := arg.extractLsb' 0 12, hrangeX2 := arg.extractLsb' 12 12 } })
    ∧ (s.pending = .write 4 .word (top ++ (0x07#6 ++ arg)) :: rest →
      step s = .next { s with
        pending := rest, bank := { s.bank with vrangeY1 := arg.extractLsb' 0 10, vrangeY2 := arg.extractLsb' 10 10 } })
    ∧ (s.pending = .write 4 .word (top ++ (0x08#6 ++ arg)) :: rest →
      step s = .next { s with pending := rest, bank := { s.bank with dispMode := arg } })
    ∧ (s.pending = .write 4 .word (top ++ (0x09#6 ++ arg)) :: rest →
      step s = .next { s with pending := rest, bank := { s.bank with texDisableAllowed := arg.getLsbD 0 } })

/-- The unrecognized control commands set `fault` and add their word to the diagnostic stream as the `info` of the
`Fatal` (44_control_port R299, 60_exceptions R371). That event's form is the model's choice, log entry 10. -/
def Obligations.UnrecognizedCommandsRaiseFatal : Prop :=
  ∀ (i : Instr) (w : Word) (s : State),
    i.isUnrecognized = true → encode i = [.write 4 .word w] → s.fault = false →
    exec i s = .next { s with fault := true, diags := s.diags ++ [.fatal w] }

/-- 44_control_port R291 to R298: what each `GET_INFO` sub-query latches; the read mode becomes `InfoQuery`. -/
def Obligations.InfoQueriesLatch : Prop :=
  ∀ s : State, s.fault = false →
    exec .getInfoTexWindow s
        = .next { s with readMode := .infoQuery, readLatch := s.bank.texWindow.setWidth 32 }
    ∧ exec .getInfoClipTl s = .next { s with
        readMode := .infoQuery
        readLatch := (s.bank.clipTop.setWidth 32 <<< 10) ||| s.bank.clipLeft.setWidth 32 }
    ∧ exec .getInfoClipBr s = .next { s with
        readMode := .infoQuery
        readLatch := (s.bank.clipBottom.setWidth 32 <<< 10) ||| s.bank.clipRight.setWidth 32 }
    ∧ exec .getInfoOffset s = .next { s with
        readMode := .infoQuery
        readLatch := (s.bank.offY.setWidth 32 <<< 11) ||| s.bank.offX.setWidth 32 }
    ∧ exec .getInfoVersion s = .next { s with readMode := .infoQuery, readLatch := s.cfg.gpuVersion }
    ∧ exec .getInfoZero s = .next { s with readMode := .infoQuery, readLatch := 0#32 }
    ∧ ∀ i : Instr, i.isEmptyQuery = true → exec i s = .next { s with readMode := .infoQuery }

/-- 44_control_port R293 to R295: a latched clip corner or offset has the layout its setting command takes: the word
read back, under that command's opcode, restores the registers. -/
def Obligations.InfoWordsRestoreRegisters : Prop :=
  ∀ s : State, s.fault = false →
    (∃ t, exec .getInfoClipTl s = .next t
      ∧ decode (drawWrites [0xE3000000#32 ||| t.readLatch]) = .ok (.setClipTl s.bank.clipLeft s.bank.clipTop))
    ∧ (∃ t, exec .getInfoClipBr s = .next t
      ∧ decode (drawWrites [0xE4000000#32 ||| t.readLatch]) = .ok (.setClipBr s.bank.clipRight s.bank.clipBottom))
    ∧ (∃ t, exec .getInfoOffset s = .next t
      ∧ decode (drawWrites [0xE5000000#32 ||| t.readLatch]) = .ok (.setOffset s.bank.offX s.bank.offY))

/-! ## Timing engine -/

/-- 46_timing_engine R340, R341 to R346: the dots, the lines, the wrap, the parity and the answer of one `Step`. -/
def Obligations.StepAdvancesTime : Prop :=
  ∀ (cycles : Nat) (s : State), s.fault = false →
    let total := if s.bank.dispMode.getLsbD 3 then s.cfg.linesTotalPal else 263
    let blank := if s.bank.dispMode.getLsbD 3 then s.cfg.vblankStartPal else 243
    let reached := s.timing.line + (s.timing.dot + cycles) / s.cfg.dotsPerLine
    let line := if total ≤ reached then 0 else reached
    let frame := if total ≤ reached then s.timing.frame + 1#32 else s.timing.frame
    exec (.step cycles) s = .next { s with
      timing := {
        dot := (s.timing.dot + cycles) % s.cfg.dotsPerLine
        line := line
        frame := frame
        odd := decide (line < blank) && if s.bank.dispMode.getLsbD 2 then frame.getLsbD 0 else line.testBit 0 }
      results := s.results ++ [.frameComplete (decide (total ≤ reached))] }

/-- 46_timing_engine R352, which the spec marks as its inference from R340 to R345: one line's dots a call, NTSC, from
the start of a frame: 262 calls without a frame end, the parity of the line before line 243 and none after, then the
frame ends on call 263. -/
def Obligations.NtscFrameTakes263Lines : Prop :=
  ∀ (s : State) (k : Nat), s.fault = false → 0 < s.cfg.dotsPerLine →
    s.bank.dispMode.getLsbD 3 = false → s.bank.dispMode.getLsbD 2 = false →
    s.timing.dot = 0 → s.timing.line = 0 → 1 ≤ k → k ≤ 263 →
    runInstrs (List.replicate k (.step s.cfg.dotsPerLine)) s = .next { s with
      timing := {
        dot := 0
        line := if k = 263 then 0 else k
        frame := if k = 263 then s.timing.frame + 1#32 else s.timing.frame
        odd := decide (k < 243) && k.testBit 0 }
      results := s.results ++ List.replicate (min k 262) (.frameComplete false)
        ++ if k = 263 then [.frameComplete true] else [] }

/-- 70_reset_and_hazards R409, 46_timing_engine R341: within a frame, two `Step`s leave the timing state of one `Step`
of their sum. -/
def Obligations.StepsAddUpWithinFrame : Prop :=
  ∀ (a b : Nat) (s : State), s.fault = false → 0 < s.cfg.dotsPerLine →
    s.timing.line + (s.timing.dot + a + b) / s.cfg.dotsPerLine < linesTotal s →
    ∃ t u, runInstrs [.step a, .step b] s = .next t ∧ exec (.step (a + b)) s = .next u ∧ t.timing = u.timing

/-! ## Backend -/

/-- 20_memory R73, R69: a backend write stores one masked pixel inside the grid and nothing outside it. -/
def Obligations.BackendWritesOneMaskedPixel : Prop :=
  ∀ (x y : Int) (v : Half) (sm cm : Bool) (s : State), s.fault = false → s.vram.wf = true →
    ∃ m : Memory, m.wf = true ∧ exec (.backendWrite x y v sm cm) s = .next { s with vram := m }
      ∧ (∀ (cx : BitVec 10) (cy : BitVec 9),
          m.fbRead cx cy =
            if x = cx.toNat ∧ y = cy.toNat ∧ ¬ (cm = true ∧ (s.vram.fbRead cx cy).getLsbD 15 = true) then
              BitVec.ofBool (v.getLsbD 15 || sm) ++ v.extractLsb' 0 15
            else s.vram.fbRead cx cy)
      ∧ (∀ a, (∀ (cx : BitVec 10) (cy : BitVec 9), x = cx.toNat ∧ y = cy.toNat →
            a ≠ cellAddress cx cy ∧ a ≠ cellAddress cx cy + 1) →
          m.readByte a = s.vram.readByte a)

/-! ## The whole machine -/

/-- 46_timing_engine R350: the timing state is 0 at power-on and changes only in `Step`. That the parameters of 00_scope
R5 stand in the state and no step changes them is the model's choice (log entry 4). -/
def Obligations.TimeMovesOnlyInStep : Prop :=
  State.reset.timing = { dot := 0, line := 0, frame := 0#32, odd := false }
  ∧ ∀ s t : State, step s = .next t →
    t.cfg = s.cfg ∧ (t.timing ≠ s.timing → ∃ cycles rest, s.pending = .elapse cycles :: rest)

/-- 60_exceptions R367: the IRQ latch is set by `IRQ_REQUEST` and by nothing else, and cleared by `ACK_IRQ`, by `RESET`,
by power-on, and by nothing else. -/
def Obligations.IrqLatchSources : Prop :=
  State.reset.bank.irqLatch = false
  ∧ ∀ s t : State, step s = .next t → s.fault = false →
    (s.bank.irqLatch = false → (t.bank.irqLatch = true ↔
      s.dec.state = .idle ∧
        ∃ (p : BitVec 24) (rest : List Transaction), s.pending = .write 0 .word (0x1F#8 ++ p) :: rest))
    ∧ (s.bank.irqLatch = true → (t.bank.irqLatch = false ↔
      ∃ (top : BitVec 2) (arg : BitVec 24) (rest : List Transaction),
        s.pending = .write 4 .word (top ++ (0x02#6 ++ arg)) :: rest
          ∨ s.pending = .write 4 .word (top ++ (0x00#6 ++ arg)) :: rest))

/-- 20_memory R67: VRAM changes only through its four writers: the dispatch of a fill or of a VRAM to VRAM copy, a data
word of an upload, a backend write. -/
def Obligations.VramHasFourWriters : Prop :=
  ∀ s t : State, step s = .next t → t.vram ≠ s.vram →
    (∃ x y v sm cm rest, s.pending = .backend x y v sm cm :: rest)
    ∨ (∃ w rest, s.pending = .write 0 .word w :: rest
        ∧ (s.dec.state = .transfer
          ∨ s.dec.state = .accum ∧ (s.dec.kind = .fill ∨ s.dec.kind = .copyVramVram)))

/-- 70_reset_and_hazards R405: under `check_mask`, a cell whose mask bit is set keeps its value, unless a fill is
dispatched or the backend writes. -/
def Obligations.MaskedCellsAreProtected : Prop :=
  ∀ (s t : State) (x : BitVec 10) (y : BitVec 9),
    s.Inv → step s = .next t → s.bank.checkMask = true → (s.vram.fbRead x y).getLsbD 15 = true →
    ¬ (s.dec.state = .accum ∧ s.dec.kind = .fill) →
    (∀ bx bc v sm cm rest, s.pending ≠ .backend bx bc v sm cm :: rest) →
    t.vram.fbRead x y = s.vram.fbRead x y

/-- 44_control_port R301, and R304, which the spec marks as its inference from R281 to R299: a control-port write
changes neither VRAM nor the emissions, the timing or the results; the decoder and the write registers only by `RESET`
and `RESET_CMDBUF`. -/
def Obligations.ControlPortLeavesTheRest : Prop :=
  ∀ (s t : State) (w : Word) (rest : List Transaction),
    s.pending = .write 4 .word w :: rest → step s = .next t →
    t.vram = s.vram ∧ t.emissions = s.emissions ∧ t.timing = s.timing ∧ t.results = s.results
    ∧ (2 ≤ (w.extractLsb' 24 6).toNat → t.dec = s.dec ∧ t.wr = s.wr)

/-- 41_gp0_immediate R171, and 42_primitives R221, which the spec marks as its inference: while a command is being
received or data transferred, no draw-port word changes a register of the bank, the latch or the timing; the read mode
changes only by starting a read-back. -/
def Obligations.WordsInsideCommandsKeepRegisters : Prop :=
  ∀ (s t : State) (w : Word) (rest : List Transaction),
    s.pending = .write 0 .word w :: rest → s.dec.state ≠ .idle → step s = .next t →
    t.bank = s.bank ∧ t.readLatch = s.readLatch ∧ t.timing = s.timing ∧ t.results = s.results
    ∧ (s.dec.kind ≠ .copyVramCpu ∨ s.dec.state = .transfer → t.readMode = s.readMode ∧ t.rd = s.rd)

/-- 00_scope R10, R11: the output streams only grow, and no rule reads the diagnostic stream: a step with another
history of events does the same and adds the same events. -/
def Obligations.DiagnosticsAreNeverRead : Prop :=
  ∀ (s t : State) (history : List DiagEvent), step s = .next t →
    (∃ es, t.emissions = s.emissions ++ es) ∧ (∃ rs, t.results = s.results ++ rs)
    ∧ ∃ events, t.diags = s.diags ++ events
      ∧ step { s with diags := history } = .next { t with diags := history ++ events }

end
end

