-- ==== Sys2Proof/Laws/Memory.lean ====
section
/-! SUPPORT. Memory: reads after writes, the canonical form, cells of the framebuffer. -/

namespace Sys2Proof.Machine

/-! ## Bytes -/

/-- Under the canonical form from `low` on, addresses below `low` are unlisted. -/
theorem Memory.readByte_below {m : Memory} : ∀ {low a : Nat}, Memory.risingFrom low m = true → a < low →
    Memory.readByte m a = unlistedByte := by
  induction m with
  | nil => intros; rfl
  | cons c rest ih =>
    intro low a h hlt
    obtain ⟨k, b⟩ := c
    simp only [Memory.risingFrom, Bool.and_eq_true, decide_eq_true_eq] at h
    have hk : k ≠ a := by omega
    simp only [Memory.readByte, hk, if_false]
    exact ih h.2 (by omega)

theorem Memory.risingFrom_mono {m : Memory} {low low' : Nat} (h : Memory.risingFrom low m = true) (hle : low' ≤ low) :
    Memory.risingFrom low' m = true := by
  cases m with
  | nil => rfl
  | cons c rest =>
    obtain ⟨k, b⟩ := c
    simp only [Memory.risingFrom, Bool.and_eq_true, decide_eq_true_eq] at h ⊢
    exact ⟨⟨by omega, h.1.2⟩, h.2⟩

theorem Memory.readByte_push (rest : Memory) (a : Nat) (b : Byte) (x : Nat)
    (h : Memory.readByte rest a = unlistedByte) :
    Memory.readByte (Memory.push a b rest) x = if x = a then b else Memory.readByte rest x := by
  unfold Memory.push
  by_cases hb : b = unlistedByte
  · simp only [hb, if_true]
    by_cases hx : x = a
    · simp [hx, h]
    · simp [hx]
  · simp only [hb, if_false, Memory.readByte]
    by_cases hx : a = x
    · simp [hx]
    · simp [hx, Ne.symm hx]

theorem Memory.risingFrom_push {rest : Memory} {low a : Nat} {b : Byte} (hlow : low ≤ a)
    (h : Memory.risingFrom (a + 1) rest = true) : Memory.risingFrom low (Memory.push a b rest) = true := by
  unfold Memory.push
  by_cases hb : b = unlistedByte
  · simp only [hb, if_true]
    exact Memory.risingFrom_mono h (by omega)
  · simp [hb, Memory.risingFrom, hlow, h]

/-- What a byte write does to every byte read, on a memory in canonical form. -/
theorem Memory.readByte_writeByte {m : Memory} : ∀ {low : Nat}, Memory.risingFrom low m = true →
    ∀ (a : Nat) (b : Byte) (x : Nat),
      Memory.readByte (Memory.writeByte m a b) x = if x = a then b else Memory.readByte m x := by
  induction m with
  | nil =>
    intro low _ a b x
    exact Memory.readByte_push [] a b x rfl
  | cons c rest ih =>
    intro low h a b x
    obtain ⟨k, v⟩ := c
    have hh := h
    simp only [Memory.risingFrom, Bool.and_eq_true, decide_eq_true_eq] at h
    simp only [Memory.writeByte]
    by_cases hlt : a < k
    · simp only [hlt, if_true]
      refine Memory.readByte_push _ a b x ?_
      rw [Memory.readByte, if_neg (by omega : ¬ k = a)]
      exact Memory.readByte_below h.2 (by omega)
    · simp only [hlt, if_false]
      by_cases hak : a = k
      · subst hak
        simp only [if_true]
        rw [Memory.readByte_push rest a b x (Memory.readByte_below h.2 (by omega))]
        by_cases hx : x = a
        · simp [hx]
        · simp [hx, Memory.readByte, Ne.symm hx]
      · simp only [hak, if_false, Memory.readByte, ih h.2 a b x]
        by_cases hkx : k = x
        · have hxa : ¬ x = a := by omega
          simp [hkx, hxa]
        · simp [hkx]

/-- A byte write keeps the canonical order. -/
theorem Memory.risingFrom_writeByte {m : Memory} : ∀ {low : Nat}, Memory.risingFrom low m = true →
    ∀ (a : Nat) (b : Byte), low ≤ a → Memory.risingFrom low (Memory.writeByte m a b) = true := by
  induction m with
  | nil => intro low _ a b hlow; exact Memory.risingFrom_push hlow rfl
  | cons c rest ih =>
    intro low h a b hlow
    obtain ⟨k, v⟩ := c
    simp only [Memory.risingFrom, Bool.and_eq_true, decide_eq_true_eq] at h
    simp only [Memory.writeByte]
    by_cases hlt : a < k
    · simp only [hlt, if_true]
      refine Memory.risingFrom_push hlow ?_
      simp only [Memory.risingFrom, Bool.and_eq_true, decide_eq_true_eq]
      exact ⟨⟨by omega, h.1.2⟩, h.2⟩
    · simp only [hlt, if_false]
      by_cases hak : a = k
      · subst hak
        simp only [if_true]
        exact Memory.risingFrom_push hlow h.2
      · simp only [hak, if_false, Memory.risingFrom, Bool.and_eq_true, decide_eq_true_eq]
        exact ⟨⟨h.1.1, h.1.2⟩, ih h.2 a b (by omega)⟩

theorem Memory.all_push {p : Host.Cell → Bool} {rest : Memory} {a : Nat} {b : Byte} (hr : rest.all p = true)
    (ha : p (a, b) = true) : (Memory.push a b rest).all p = true := by
  unfold Memory.push
  split
  · exact hr
  · simpa [ha] using hr

theorem Memory.all_writeByte {p : Host.Cell → Bool} {m : Memory} {a : Nat} {b : Byte} (hm : m.all p = true)
    (ha : p (a, b) = true) : (Memory.writeByte m a b).all p = true := by
  induction m with
  | nil => exact Memory.all_push rfl ha
  | cons c rest ih =>
    obtain ⟨k, v⟩ := c
    have h := hm
    simp only [List.all_cons, Bool.and_eq_true] at h
    simp only [Memory.writeByte]
    split
    · exact Memory.all_push hm ha
    · split
      · exact Memory.all_push h.2 ha
      · simp only [List.all_cons, Bool.and_eq_true]
        exact ⟨h.1, ih h.2⟩

/-- A byte write inside the framebuffer keeps the canonical form. -/
theorem Memory.wf_writeByte {m : Memory} (h : m.wf = true) {a : Nat} (ha : a < 2 * (Config.vramWidth * Config.vramHeight))
    (b : Byte) : (m.writeByte a b).wf = true := by
  simp only [Memory.wf, Bool.and_eq_true] at h ⊢
  exact ⟨Memory.risingFrom_writeByte h.1 a b (Nat.zero_le _), Memory.all_writeByte h.2 (by simpa using ha)⟩

theorem Memory.wf_nil : Memory.wf [] = true := rfl

/-- Two memories in canonical form that agree on every byte are equal. -/
theorem Memory.ext_of_readByte {m n : Memory} : ∀ {low : Nat}, Memory.risingFrom low m = true →
    Memory.risingFrom low n = true → (∀ a, Memory.readByte m a = Memory.readByte n a) → m = n := by
  induction m generalizing n with
  | nil =>
    intro low _ hn h
    cases n with
    | nil => rfl
    | cons c rest =>
      obtain ⟨k, b⟩ := c
      have hk := h k
      simp only [Memory.risingFrom, Bool.and_eq_true, decide_eq_true_eq] at hn
      simp only [Memory.readByte, if_true] at hk
      exact absurd hk.symm hn.1.2
  | cons c rest ih =>
    intro low hm hn h
    obtain ⟨k, b⟩ := c
    have hm' := hm
    simp only [Memory.risingFrom, Bool.and_eq_true, decide_eq_true_eq] at hm
    cases n with
    | nil =>
      have hk := h k
      simp only [Memory.readByte, if_true] at hk
      exact absurd hk hm.1.2
    | cons c' rest' =>
      obtain ⟨k', b'⟩ := c'
      have hn' := hn
      simp only [Memory.risingFrom, Bool.and_eq_true, decide_eq_true_eq] at hn
      have hkk : k = k' := by
        rcases Nat.lt_trichotomy k k' with hlt | heq | hgt
        · have hk := h k
          have hne : ¬ k' = k := by omega
          simp only [Memory.readByte, if_true, hne, if_false] at hk
          rw [Memory.readByte_below hn.2 (by omega)] at hk
          exact absurd hk hm.1.2
        · exact heq
        · have hk := h k'
          have hne : ¬ k = k' := by omega
          simp only [Memory.readByte, if_true, hne, if_false] at hk
          rw [Memory.readByte_below hm.2 (by omega)] at hk
          exact absurd hk.symm hn.1.2
      subst hkk
      have hb : b = b' := by
        have hk := h k
        simpa only [Memory.readByte, if_true] using hk
      subst hb
      rw [ih hm.2 hn.2]
      intro a
      by_cases ha : a < k + 1
      · rw [Memory.readByte_below hm.2 ha, Memory.readByte_below hn.2 ha]
      · have hk := h a
        have hne : ¬ k = a := by omega
        simpa only [Memory.readByte, hne, if_false] using hk

/-! ## Cells -/

theorem cellAddress_lt (x : BitVec 10) (y : BitVec 9) :
    cellAddress x y + 1 < 2 * (Config.vramWidth * Config.vramHeight) := by
  have hx := x.isLt
  have hy := y.isLt
  simp only [cellAddress, Config.vramWidth, Config.vramHeight]
  omega

theorem cellAddress_inj {x x' : BitVec 10} {y y' : BitVec 9} :
    cellAddress x y = cellAddress x' y' ↔ x = x' ∧ y = y' := by
  constructor
  · intro h
    have hx := x.isLt
    have hx' := x'.isLt
    simp only [cellAddress, Config.vramWidth] at h
    exact ⟨BitVec.eq_of_toNat_eq (by omega), BitVec.eq_of_toNat_eq (by omega)⟩
  · rintro ⟨rfl, rfl⟩
    rfl

/-- Distinct cells share no byte: addresses of low bytes are even. -/
theorem cellAddress_ne_succ (x x' : BitVec 10) (y y' : BitVec 9) : cellAddress x y ≠ cellAddress x' y' + 1 := by
  simp only [cellAddress]
  omega

theorem half_append_extract (v : Half) : v.extractLsb' 8 8 ++ v.extractLsb' 0 8 = v := by
  apply BitVec.eq_of_getLsbD_eq
  intro i hi
  rw [BitVec.getLsbD_append]
  by_cases h : i < 8
  · simp [h]
  · have h8 : i - 8 < 8 := by omega
    simp [h, h8, show 8 + (i - 8) = i by omega]

/-- An unconditional cell write keeps the canonical form. -/
theorem Memory.wf_fbWrite {m : Memory} (h : m.wf = true) (x : BitVec 10) (y : BitVec 9) (v : Half) :
    (m.fbWrite x y v).wf = true := by
  have hlt := cellAddress_lt x y
  exact Memory.wf_writeByte (Memory.wf_writeByte h (by omega) _) hlt _

/-- Every byte after an unconditional cell write. -/
theorem Memory.readByte_fbWrite {m : Memory} (h : m.wf = true) (x : BitVec 10) (y : BitVec 9) (v : Half) (a : Nat) :
    (m.fbWrite x y v).readByte a =
      if a = cellAddress x y + 1 then v.extractLsb' 8 8
      else if a = cellAddress x y then v.extractLsb' 0 8 else m.readByte a := by
  have hr : Memory.risingFrom 0 m = true := by simp only [Memory.wf, Bool.and_eq_true] at h; exact h.1
  rw [Memory.fbWrite, Memory.readByte_writeByte (Memory.risingFrom_writeByte hr _ _ (Nat.zero_le _)),
    Memory.readByte_writeByte hr]

/-- `FbRead` after `FbWrite`: the written cell reads as written, every other cell as before. -/
theorem Memory.fbRead_fbWrite {m : Memory} (h : m.wf = true) (x x' : BitVec 10) (y y' : BitVec 9) (v : Half) :
    (m.fbWrite x y v).fbRead x' y' = if x' = x ∧ y' = y then v else m.fbRead x' y' := by
  simp only [Memory.fbRead, Memory.readByte_fbWrite h]
  have h1 := cellAddress_ne_succ x x' y y'
  have h2 := cellAddress_ne_succ x' x y' y
  by_cases hc : x' = x ∧ y' = y
  · obtain ⟨rfl, rfl⟩ := hc
    simp [half_append_extract]
  · have hne : cellAddress x' y' ≠ cellAddress x y := fun e => hc (cellAddress_inj.1 e)
    simp [hc, hne, h2, Ne.symm h1]

/-- A masked write keeps the canonical form. -/
theorem Memory.wf_fbWriteMasked {m : Memory} (h : m.wf = true) (x : BitVec 10) (y : BitVec 9) (v : Half) (sm cm : Bool) :
    (m.fbWriteMasked x y v sm cm).wf = true := by
  unfold Memory.fbWriteMasked
  split
  · exact h
  · exact Memory.wf_fbWrite h _ _ _

/-- `FbRead` after `FbWriteMasked` (20_memory R69): dropped where the mask bit is set under `cm`, else the masked
value; every other cell as before. -/
theorem Memory.fbRead_fbWriteMasked {m : Memory} (h : m.wf = true) (x x' : BitVec 10) (y y' : BitVec 9) (v : Half)
    (sm cm : Bool) :
    (m.fbWriteMasked x y v sm cm).fbRead x' y' =
      if x' = x ∧ y' = y ∧ (cm && (m.fbRead x y).getLsbD 15) = false then maskedValue v sm else m.fbRead x' y' := by
  unfold Memory.fbWriteMasked
  cases hd : (cm && (m.fbRead x y).getLsbD 15)
  · simp [Memory.fbRead_fbWrite h]
  · simp

/-- No byte is listed outside the framebuffer. -/
theorem Memory.readByte_outside {m : Memory} (h : m.wf = true) {a : Nat}
    (ha : 2 * (Config.vramWidth * Config.vramHeight) ≤ a) : m.readByte a = unlistedByte := by
  simp only [Memory.wf, Bool.and_eq_true] at h
  have hall := h.2
  clear h
  induction m with
  | nil => rfl
  | cons c rest ih =>
    obtain ⟨k, b⟩ := c
    simp only [List.all_cons, Bool.and_eq_true, decide_eq_true_eq] at hall
    rw [Memory.readByte, if_neg (by omega : ¬ k = a)]
    exact ih hall.2

/-! ## Contents given as bytes -/

/-- A memory of given bytes is in canonical form. -/
theorem Memory.wf_ofBytes (bytes : List Host.Cell) : (Memory.ofBytes bytes).wf = true := by
  suffices h : ∀ m : Memory, m.wf = true → (bytes.foldl (fun m c =>
      if c.1 < 2 * (Config.vramWidth * Config.vramHeight) then m.writeByte c.1 c.2 else m) m).wf = true from h [] rfl
  induction bytes with
  | nil => exact fun _ hm => hm
  | cons c rest ih =>
    intro m hm
    refine ih _ ?_
    dsimp only
    split
    · exact Memory.wf_writeByte hm ‹_› _
    · exact hm

theorem Memory.wf_powerOnVram : powerOnVram.wf = true := Memory.wf_ofBytes _

/-- Adding one byte inside VRAM to the given bytes. -/
theorem Memory.readByte_ofBytes_concat (bytes : List Host.Cell) {a : Nat} (b : Byte) (x : Nat)
    (ha : a < 2 * (Config.vramWidth * Config.vramHeight)) :
    (Memory.ofBytes (bytes ++ [(a, b)])).readByte x = if x = a then b else (Memory.ofBytes bytes).readByte x := by
  have hw := Memory.wf_ofBytes bytes
  simp only [Memory.wf, Bool.and_eq_true] at hw
  simp only [Memory.ofBytes, List.foldl_append, List.foldl_cons, List.foldl_nil, ha, if_true]
  exact Memory.readByte_writeByte hw.1 a b x

/-- The bytes below `n` given one by one by a function. -/
theorem Memory.readByte_ofBytes_range (f : Nat → Byte) : ∀ n, n ≤ 2 * (Config.vramWidth * Config.vramHeight) →
    ∀ x, (Memory.ofBytes ((List.range n).map fun a => (a, f a))).readByte x = if x < n then f x else unlistedByte := by
  intro n
  induction n with
  | zero => intro _ x; simp [Memory.ofBytes, Memory.readByte]
  | succ n ih =>
    intro hn x
    rw [List.range_succ, List.map_append, List.map_singleton, Memory.readByte_ofBytes_concat _ _ _ (by omega),
      ih (by omega)]
    by_cases hx : x = n
    · simp [hx]
    · simp [hx, show x < n + 1 ↔ x < n by omega]

/-- Every function of the coordinates is the contents some list of bytes gives: `powerOnVram` is arbitrary
(70_reset_and_hazards R399). -/
theorem Memory.ofBytes_covers (g : BitVec 10 → BitVec 9 → Half) :
    ∃ bytes, ∀ x y, (Memory.ofBytes bytes).fbRead x y = g x y := by
  let cell (a : Nat) : Half := g (BitVec.ofNat 10 (a / 2 % 1024)) (BitVec.ofNat 9 (a / 2 / 1024))
  let f (a : Nat) : Byte := if a % 2 = 0 then (cell a).extractLsb' 0 8 else (cell a).extractLsb' 8 8
  refine ⟨(List.range (2 * (Config.vramWidth * Config.vramHeight))).map fun a => (a, f a), fun x y => ?_⟩
  have hlt := cellAddress_lt x y
  have hx : (y.toNat * 1024 + x.toNat) % 1024 = x.toNat := by have := x.isLt; omega
  have hy : (y.toNat * 1024 + x.toNat) / 1024 = y.toNat := by have := x.isLt; omega
  have h0 : cell (cellAddress x y) = g x y := by
    simp only [cell, cellAddress, Config.vramWidth, Nat.mul_div_cancel_left _ (Nat.zero_lt_two), hx, hy,
      BitVec.ofNat_toNat, BitVec.setWidth_eq]
  have h1 : cell (cellAddress x y + 1) = g x y := by
    have hd : (2 * (y.toNat * 1024 + x.toNat) + 1) / 2 = y.toNat * 1024 + x.toNat := by omega
    simp only [cell, cellAddress, Config.vramWidth, hd, hx, hy, BitVec.ofNat_toNat, BitVec.setWidth_eq]
  have e0 : cellAddress x y % 2 = 0 := by simp [cellAddress]
  have e1 : (cellAddress x y + 1) % 2 = 1 := by omega
  rw [Memory.fbRead, Memory.readByte_ofBytes_range f _ le_rfl, Memory.readByte_ofBytes_range f _ le_rfl,
    if_pos hlt, if_pos (by omega)]
  simp only [f, e0, e1, if_true, one_ne_zero, if_false, h0, h1]
  exact half_append_extract _

end Sys2Proof.Machine
end

