-- ==== Sys2Proof/Laws/Cells.lean ====
section
/-! SUPPORT. The operations that write cells: fills, masked writes, block copies, backend writes. For each, the
canonical form is kept, and one lemma says what every cell, or every byte, reads as afterwards. -/

namespace Sys2Proof.Machine

/-! ## One cell -/

/-- The cells after a masked write (20_memory R69). -/
theorem Memory.grid_fbWriteMasked {m : Memory} (h : m.wf = true) (x : BitVec 10) (y : BitVec 9) (v : Half) (sm cm : Bool) :
    (m.fbWriteMasked x y v sm cm).grid = m.grid.storeMasked x y v sm cm := by
  funext x' y'
  simp only [Memory.grid, Grid.storeMasked, Memory.fbRead_fbWriteMasked h, maskedValue]
  refine if_congr ?_ rfl rfl
  cases cm <;> simp

/-- Bytes outside the written cell (20_memory R69). -/
theorem Memory.readByte_fbWriteMasked_of_ne {m : Memory} (h : m.wf = true) (x : BitVec 10) (y : BitVec 9) (v : Half)
    (sm cm : Bool) {a : Nat} (h0 : a ≠ cellAddress x y) (h1 : a ≠ cellAddress x y + 1) :
    (m.fbWriteMasked x y v sm cm).readByte a = m.readByte a := by
  unfold Memory.fbWriteMasked
  split
  · rfl
  · rw [Memory.readByte_fbWrite h, if_neg h1, if_neg h0]

/-- Under `cm`, a masked write changes no cell whose mask bit is set (20_memory R69). -/
theorem Memory.fbRead_fbWriteMasked_protected {m : Memory} (h : m.wf = true) (x x' : BitVec 10) (y y' : BitVec 9)
    (v : Half) (sm : Bool) (hp : (m.fbRead x' y').getLsbD 15 = true) :
    (m.fbWriteMasked x y v sm true).fbRead x' y' = m.fbRead x' y' := by
  rw [Memory.fbRead_fbWriteMasked h, if_neg]
  rintro ⟨rfl, rfl, hd⟩
  rw [hp] at hd
  cases hd

/-- What a memory reads as at every byte is settled by its cells. -/
theorem Memory.readByte_eq_of_fbRead {m n : Memory} (hm : m.wf = true) (hn : n.wf = true) {a : Nat}
    (h : ∀ x y, a = cellAddress x y ∨ a = cellAddress x y + 1 → m.fbRead x y = n.fbRead x y) :
    m.readByte a = n.readByte a := by
  by_cases ha : a < 2 * (Config.vramWidth * Config.vramHeight)
  · have ha' := ha
    simp only [Config.vramWidth, Config.vramHeight] at ha'
    have hadr : cellAddress (BitVec.ofNat 10 (a / 2 % 1024)) (BitVec.ofNat 9 (a / 2 / 1024)) = 2 * (a / 2) := by
      simp only [cellAddress, Config.vramWidth, BitVec.toNat_ofNat]
      omega
    have hc := h (BitVec.ofNat 10 (a / 2 % 1024)) (BitVec.ofNat 9 (a / 2 / 1024)) (by rw [hadr]; omega)
    simp only [Memory.fbRead, hadr] at hc
    have hhi := congrArg (fun v : Half => v.extractLsb' 8 8) hc
    have hlo := congrArg (fun v : Half => v.extractLsb' 0 8) hc
    simp only [BitVec.extractLsb'_append_eq_left, BitVec.extractLsb'_append_eq_right] at hhi hlo
    rcases Nat.mod_two_eq_zero_or_one a with he | ho
    · rw [show a = 2 * (a / 2) by omega]; exact hlo
    · rw [show a = 2 * (a / 2) + 1 by omega]; exact hhi
  · rw [Memory.readByte_outside hm (by omega), Memory.readByte_outside hn (by omega)]

/-! ## Fills -/

theorem fillRow_wf {m : Memory} (v : Half) (y : BitVec 9) (x n : Nat) (h : m.wf = true) :
    (fillRow v y x n m).wf = true := by
  induction n generalizing x m with
  | zero => exact h
  | succ n ih => exact ih (x + 1) (Memory.wf_fbWrite h _ _ _)

/-- The cells after a filled row that ends inside the grid. -/
theorem fbRead_fillRow {m : Memory} (v : Half) (y : BitVec 9) (x n : Nat) (h : m.wf = true) (hx : x + n ≤ 1024)
    (x' : BitVec 10) (y' : BitVec 9) :
    (fillRow v y x n m).fbRead x' y' =
      if y' = y ∧ x ≤ x'.toNat ∧ x'.toNat < x + n then v else m.fbRead x' y' := by
  induction n generalizing x m with
  | zero => rw [if_neg (by omega)]; rfl
  | succ n ih =>
    rw [fillRow, ih (x + 1) (Memory.wf_fbWrite h _ _ _) (by omega), Memory.fbRead_fbWrite h]
    have he : x' = BitVec.ofNat 10 x ↔ x'.toNat = x := by
      rw [BitVec.toNat_eq, BitVec.toNat_ofNat, Nat.mod_eq_of_lt (by omega)]
    by_cases h1 : y' = y ∧ x + 1 ≤ x'.toNat ∧ x'.toNat < x + 1 + n
    · rw [if_pos h1, if_pos ⟨h1.1, by omega, by omega⟩]
    · rw [if_neg h1]
      by_cases h2 : x' = BitVec.ofNat 10 x ∧ y' = y
      · have := he.1 h2.1
        rw [if_pos h2, if_pos ⟨h2.2, by omega, by omega⟩]
      · rw [if_neg h2, if_neg]
        rintro ⟨hy, hl, hr⟩
        by_cases hxx : x'.toNat = x
        · exact h2 ⟨he.2 hxx, hy⟩
        · exact h1 ⟨hy, by omega, by omega⟩

theorem fillRows_wf {m : Memory} (v : Half) (x w y n : Nat) (h : m.wf = true) : (fillRows v x w y n m).wf = true := by
  induction n generalizing y m with
  | zero => exact h
  | succ n ih => exact ih (y + 1) (fillRow_wf _ _ _ _ h)

/-- The cells after filled rows that end inside the grid. -/
theorem fbRead_fillRows {m : Memory} (v : Half) (x w y n : Nat) (h : m.wf = true) (hx : x + w ≤ 1024) (hy : y + n ≤ 512)
    (x' : BitVec 10) (y' : BitVec 9) :
    (fillRows v x w y n m).fbRead x' y' =
      if (y ≤ y'.toNat ∧ y'.toNat < y + n) ∧ x ≤ x'.toNat ∧ x'.toNat < x + w then v else m.fbRead x' y' := by
  induction n generalizing y m with
  | zero => rw [if_neg (by omega)]; rfl
  | succ n ih =>
    rw [fillRows, ih (y + 1) (fillRow_wf _ _ _ _ h) (by omega), fbRead_fillRow _ _ _ _ h hx]
    have he : y' = BitVec.ofNat 9 y ↔ y'.toNat = y := by
      rw [BitVec.toNat_eq, BitVec.toNat_ofNat, Nat.mod_eq_of_lt (by omega)]
    simp only [he]
    by_cases h1 : (y + 1 ≤ y'.toNat ∧ y'.toNat < y + 1 + n) ∧ x ≤ x'.toNat ∧ x'.toNat < x + w
    · rw [if_pos h1, if_pos (by omega)]
    · rw [if_neg h1]
      by_cases h2 : y'.toNat = y ∧ x ≤ x'.toNat ∧ x'.toNat < x + w
      · rw [if_pos h2, if_pos (by omega)]
      · rw [if_neg h2, if_neg (by omega)]

theorem fillVram_wf {m : Memory} (c : Color) (pos size : PairWord) (h : m.wf = true) :
    (fillVram c pos size m).wf = true := fillRows_wf _ _ _ _ _ h

/-- Every cell after a fill (42_primitives R197). -/
theorem fbRead_fillVram {m : Memory} (c : Color) (pos size : PairWord) (h : m.wf = true) (x : BitVec 10) (y : BitVec 9) :
    (fillVram c pos size m).fbRead x y =
      if (fillY0 pos ≤ y.toNat ∧ y.toNat < fillY0 pos + fillHeight size)
          ∧ fillX0 pos ≤ x.toNat ∧ x.toNat < fillX0 pos + fillWidth size then to15 c
      else m.fbRead x y := by
  have hx : fillX0 pos < 1024 := by
    have := @Nat.and_le_right pos.lo.toNat (0x3F0 % 2 ^ 16)
    simp only [fillX0, BitVec.toNat_and, BitVec.toNat_ofNat]
    omega
  have hy : fillY0 pos < 512 := by
    have := @Nat.and_le_right pos.hi.toNat (0x1FF % 2 ^ 16)
    simp only [fillY0, BitVec.toNat_and, BitVec.toNat_ofNat]
    omega
  have hxl := x.isLt
  have hyl := y.isLt
  unfold fillVram
  simp only [Config.vramWidth, Config.vramHeight]
  rw [fbRead_fillRows _ _ _ _ _ h (by omega) (by omega)]
  refine if_congr ?_ rfl rfl
  omega

/-! ## Block copies -/

theorem copyCell_wf {m : Memory} (sm cm : Bool) (sx : BitVec 10) (sy : BitVec 9) (dx : BitVec 10) (dy : BitVec 9)
    (h : m.wf = true) : (copyCell sm cm sx sy dx dy m).wf = true := Memory.wf_fbWriteMasked h _ _ _ _ _

theorem copyRow_wf {m : Memory} (sm cm : Bool) (sx : BitVec 10) (sy : BitVec 9) (dx : BitVec 10) (dy : BitVec 9)
    (j i n : Nat) (h : m.wf = true) : (copyRow sm cm sx sy dx dy j i n m).wf = true := by
  induction n generalizing i m with
  | zero => exact h
  | succ n ih => exact ih (i + 1) (copyCell_wf _ _ _ _ _ _ h)

theorem copyRows_wf {m : Memory} (sm cm : Bool) (sx : BitVec 10) (sy : BitVec 9) (dx : BitVec 10) (dy : BitVec 9)
    (w j n : Nat) (h : m.wf = true) : (copyRows sm cm sx sy dx dy w j n m).wf = true := by
  induction n generalizing j m with
  | zero => exact h
  | succ n ih => exact ih (j + 1) (copyRow_wf _ _ _ _ _ _ _ _ _ h)

theorem copyVram_wf {m : Memory} (sm cm : Bool) (src dst size : PairWord) (h : m.wf = true) :
    (copyVram sm cm src dst size m).wf = true := copyRows_wf _ _ _ _ _ _ _ _ _ h

/-- The cells after one step of the copy (43_vram_copy R252). -/
theorem grid_copyCell {m : Memory} (sm cm : Bool) (sx : BitVec 10) (sy : BitVec 9) (dx : BitVec 10) (dy : BitVec 9)
    (h : m.wf = true) :
    (copyCell sm cm sx sy dx dy m).grid = m.grid.storeMasked dx dy (m.grid sx sy) sm cm :=
  Memory.grid_fbWriteMasked h _ _ _ _ _

/-- Columns `i` to `i + n - 1` of row `j`: the places `w j + i` on. -/
theorem grid_copyRow {m : Memory} (sm cm : Bool) (sx : BitVec 10) (sy : BitVec 9) (dx : BitVec 10) (dy : BitVec 9)
    (w j i n : Nat) (hw : i + n ≤ w) (h : m.wf = true) :
    (copyRow sm cm sx sy dx dy j i n m).grid =
      (List.range' (j * w + i) n).foldl (fun g k =>
        g.storeMasked (rasterCell dx dy w k).1 (rasterCell dx dy w k).2
          (g (rasterCell sx sy w k).1 (rasterCell sx sy w k).2) sm cm) m.grid := by
  induction n generalizing i m with
  | zero => rfl
  | succ n ih =>
    have hi : i < w := by omega
    have hm : (j * w + i) % w = i := by rw [Nat.mul_comm, Nat.mul_add_mod, Nat.mod_eq_of_lt hi]
    have hd : (j * w + i) / w = j := by
      rw [Nat.mul_comm, Nat.mul_add_div (by omega), Nat.div_eq_of_lt hi, Nat.add_zero]
    rw [copyRow, ih (i + 1) (by omega) (copyCell_wf _ _ _ _ _ _ h), grid_copyCell _ _ _ _ _ _ h, List.range'_succ,
      List.foldl_cons]
    simp only [rasterCell, hm, hd, wrapX, wrapY, Nat.add_assoc]

/-- Rows `j` to `j + n - 1`: the places `w j` on. -/
theorem grid_copyRows {m : Memory} (sm cm : Bool) (sx : BitVec 10) (sy : BitVec 9) (dx : BitVec 10) (dy : BitVec 9)
    (w j n : Nat) (h : m.wf = true) :
    (copyRows sm cm sx sy dx dy w j n m).grid =
      (List.range' (j * w) (n * w)).foldl (fun g k =>
        g.storeMasked (rasterCell dx dy w k).1 (rasterCell dx dy w k).2
          (g (rasterCell sx sy w k).1 (rasterCell sx sy w k).2) sm cm) m.grid := by
  induction n generalizing j m with
  | zero => simp [copyRows]
  | succ n ih =>
    rw [copyRows, ih (j + 1) (copyRow_wf _ _ _ _ _ _ _ _ _ h), grid_copyRow _ _ _ _ _ _ w _ _ _ (by omega) h,
      ← List.foldl_append]
    congr 1
    rw [Nat.add_zero, show (n + 1) * w = w + n * w by rw [Nat.add_mul, Nat.one_mul, Nat.add_comm],
      ← List.range'_append_1, Nat.add_mul, Nat.one_mul]

/-- The cells after a whole copy (43_vram_copy R252). -/
theorem grid_copyVram {m : Memory} (sm cm : Bool) (src dst size : PairWord) (h : m.wf = true) :
    (copyVram sm cm src dst size m).grid =
      Grid.copy sm cm (normX src.lo) (normY src.hi) (normX dst.lo) (normY dst.hi) (normW size.lo) (normH size.hi)
        m.grid := by
  rw [copyVram, grid_copyRows _ _ _ _ _ _ _ _ _ h, Grid.copy, List.range_eq_range', Nat.zero_mul,
    Nat.mul_comm (normH size.hi)]

/-- Under `cm`, a copy changes no cell whose mask bit is set. -/
theorem copyRow_protected {m : Memory} (sm : Bool) (sx : BitVec 10) (sy : BitVec 9) (dx : BitVec 10) (dy : BitVec 9)
    (j i n : Nat) (h : m.wf = true) (x : BitVec 10) (y : BitVec 9) (hp : (m.fbRead x y).getLsbD 15 = true) :
    (copyRow sm true sx sy dx dy j i n m).fbRead x y = m.fbRead x y := by
  induction n generalizing i m with
  | zero => rfl
  | succ n ih =>
    have h1 : (copyCell sm true (wrapX sx i) (wrapY sy j) (wrapX dx i) (wrapY dy j) m).fbRead x y = m.fbRead x y :=
      Memory.fbRead_fbWriteMasked_protected h _ _ _ _ _ _ hp
    rw [copyRow, ih (i + 1) (copyCell_wf _ _ _ _ _ _ h) (by rw [h1]; exact hp), h1]

theorem copyRows_protected {m : Memory} (sm : Bool) (sx : BitVec 10) (sy : BitVec 9) (dx : BitVec 10) (dy : BitVec 9)
    (w j n : Nat) (h : m.wf = true) (x : BitVec 10) (y : BitVec 9) (hp : (m.fbRead x y).getLsbD 15 = true) :
    (copyRows sm true sx sy dx dy w j n m).fbRead x y = m.fbRead x y := by
  induction n generalizing j m with
  | zero => rfl
  | succ n ih =>
    have h1 := copyRow_protected sm sx sy dx dy j 0 w h x y hp
    rw [copyRows, ih (j + 1) (copyRow_wf _ _ _ _ _ _ _ _ _ h) (by rw [h1]; exact hp), h1]

theorem copyVram_protected {m : Memory} (sm : Bool) (src dst size : PairWord) (h : m.wf = true) (x : BitVec 10)
    (y : BitVec 9) (hp : (m.fbRead x y).getLsbD 15 = true) :
    (copyVram sm true src dst size m).fbRead x y = m.fbRead x y := copyRows_protected _ _ _ _ _ _ _ _ h _ _ hp

/-! ## Backend writes -/

theorem backendVram_wf {m : Memory} (x y : Int) (v : Half) (sm cm : Bool) (h : m.wf = true) :
    (backendVram x y v sm cm m).wf = true := by
  unfold backendVram
  split
  · exact Memory.wf_fbWriteMasked h _ _ _ _ _
  · exact h

/-! ## Copy geometry -/

theorem normW_bounds (w : Half) : 1 ≤ normW w ∧ normW w ≤ 1024 := by
  have := ((w - 1#16).extractLsb' 0 10).isLt
  unfold normW
  omega

theorem normH_bounds (h : Half) : 1 ≤ normH h ∧ normH h ≤ 512 := by
  have := ((h - 1#16).extractLsb' 0 9).isLt
  unfold normH
  omega

/-- `NormW`: the width modulo 1024, 0 read as 1024 (43_vram_copy R241). -/
theorem normW_eq (w : Half) : normW w = if w.toNat % 1024 = 0 then 1024 else w.toNat % 1024 := by
  have := w.isLt
  simp only [normW, BitVec.extractLsb'_toNat, BitVec.toNat_sub, BitVec.toNat_ofNat, Nat.shiftRight_zero]
  split <;> omega

/-- `NormH`: the height modulo 512, 0 read as 512 (43_vram_copy R241). -/
theorem normH_eq (h : Half) : normH h = if h.toNat % 512 = 0 then 512 else h.toNat % 512 := by
  have := h.isLt
  simp only [normH, BitVec.extractLsb'_toNat, BitVec.toNat_sub, BitVec.toNat_ofNat, Nat.shiftRight_zero]
  split <;> omega

theorem transferOf_wf (pos size : PairWord) : (transferOf pos size).wf := by
  have hw := normW_bounds size.lo
  have hh := normH_bounds size.hi
  simp only [Cursor.wf, transferOf]
  omega

end Sys2Proof.Machine
end

