-- ==== Sys2Proof/Laws/Decode.lean ====
section
/-! SUPPORT. The encoder's words read back: fields, argument lists, and the decoder on a draw command and on a control
command. -/

namespace Sys2Proof

/-! ## Fields -/

/-- The high part of an append. -/
theorem extract_append_left {m n : Nat} (a : BitVec m) (b : BitVec n) : (a ++ b).extractLsb' n m = a := by
  apply BitVec.eq_of_getLsbD_eq
  intro i hi
  simp [BitVec.getLsbD_append, hi]

/-- The low part of an append. -/
theorem extract_append_right {m n : Nat} (a : BitVec m) (b : BitVec n) : (a ++ b).extractLsb' 0 n = b := by
  apply BitVec.eq_of_getLsbD_eq
  intro i hi
  simp [BitVec.getLsbD_append, hi]

/-- A part of the high part of an append. -/
theorem extract_append_high {m n k j : Nat} (a : BitVec m) (b : BitVec n) (_h : k + j ≤ m) :
    (a ++ b).extractLsb' (n + k) j = a.extractLsb' k j := by
  apply BitVec.eq_of_getLsbD_eq
  intro i hi
  have h1 : ¬ n + k + i < n := by omega
  have h2 : n + k + i - n = k + i := by omega
  simp [BitVec.getLsbD_append, hi, h1, h2]

/-- A part of the low part of an append. -/
theorem extract_append_low {m n k j : Nat} (a : BitVec m) (b : BitVec n) (h : k + j ≤ n) :
    (a ++ b).extractLsb' k j = b.extractLsb' k j := by
  apply BitVec.eq_of_getLsbD_eq
  intro i hi
  have h1 : k + i < n := by omega
  simp [BitVec.getLsbD_append, hi, h1]

@[simp] theorem opOf_append (op : BitVec 8) (p : BitVec 24) : opOf (op ++ p) = op := extract_append_left op p
@[simp] theorem colorOf_append (op : BitVec 8) (p : BitVec 24) : colorOf (op ++ p) = p := extract_append_right op p
@[simp] theorem opOf_commandWord (op : Opcode) (p : Color) : opOf (commandWord op p) = op := opOf_append op p
@[simp] theorem colorOf_commandWord (op : Opcode) (p : Color) : colorOf (commandWord op p) = p := colorOf_append op p

@[simp] theorem colorOf_colorWord (c : Color) : colorOf (colorWord c) = c := extract_append_right _ c

@[simp] theorem vertexOf_vertexWord (p : VertexWord) : vertexOf (vertexWord p) = p := by
  simp only [vertexOf, vertexWord, extract_append_left, extract_append_right]

@[simp] theorem pairOf_pairWord (p : PairWord) : pairOf (pairWord p) = p := by
  simp only [pairOf, pairWord, extract_append_left, extract_append_right]

@[simp] theorem texOf_texWord (t : TexWord) : texOf (texWord t) = t := by
  simp only [texOf, texWord, extract_append_left]
  rw [extract_append_low _ _ (by omega : 0 + 8 ≤ 16), extract_append_low _ _ (by omega : 8 + 8 ≤ 16),
    extract_append_left, extract_append_right]

@[simp] theorem op1Of_append (top : BitVec 2) (op1 : BitVec 6) (arg : BitVec 24) : op1Of (top ++ (op1 ++ arg)) = op1 := by
  rw [op1Of, extract_append_low _ _ (by omega : 24 + 6 ≤ 30), extract_append_left]

@[simp] theorem op1Of_controlWord (op1 : BitVec 6) (arg : BitVec 24) : op1Of (controlWord op1 arg) = op1 :=
  op1Of_append _ op1 arg

/-- The argument of a control word, in part. -/
theorem extract_controlWord (top : BitVec 2) (op1 : BitVec 6) (arg : BitVec 24) (k j : Nat) (h : k + j ≤ 24) :
    (top ++ (op1 ++ arg)).extractLsb' k j = arg.extractLsb' k j := by
  rw [extract_append_low _ _ (by omega : k + j ≤ 30), extract_append_low _ _ h]

/-- A bit of the argument of a control word. -/
theorem getLsbD_controlWord (top : BitVec 2) (op1 : BitVec 6) (arg : BitVec 24) (k : Nat) (h : k < 24) :
    (top ++ (op1 ++ arg)).getLsbD k = arg.getLsbD k := by
  have h' : k < 30 := by omega
  simp only [BitVec.getLsbD_append, h, h', if_true]

/-- The parameter of a command word, in part. -/
theorem extract_commandWord (op : BitVec 8) (p : BitVec 24) (k j : Nat) (h : k + j ≤ 24) :
    (op ++ p).extractLsb' k j = p.extractLsb' k j := extract_append_low _ _ h

/-- A bit of the parameter of a command word. -/
theorem getLsbD_commandWord (op : BitVec 8) (p : BitVec 24) (k : Nat) (h : k < 24) :
    (op ++ p).getLsbD k = p.getLsbD k := by simp only [BitVec.getLsbD_append, h, if_true]

/-- A word is its opcode above its parameter. -/
theorem opOf_append_colorOf (w : Word) : opOf w ++ colorOf w = w := by
  apply BitVec.eq_of_getLsbD_eq
  intro i hi
  simp only [BitVec.getLsbD_append, opOf, colorOf]
  by_cases h : i < 24
  · simp [h]
  · have h8 : i - 24 < 8 := by omega
    simp [h, h8, show 24 + (i - 24) = i by omega]

/-! ## Runs of transactions -/

@[simp] theorem drawWord_write (w : Word) : drawWord (.write 0 .word w) = some w := rfl

theorem eq_write_of_drawWord {t : Transaction} {w : Word} (h : drawWord t = some w) : t = .write 0 .word w := by
  cases t <;> simp [drawWord] at h
  obtain ⟨⟨rfl, rfl⟩, rfl⟩ := h
  rfl

@[simp] theorem drawArguments_map (ws : List Word) : drawArguments (ws.map (Transaction.write 0 .word)) = some ws := by
  induction ws with
  | nil => rfl
  | cons w rest ih => simp [drawArguments, ih]

theorem eq_map_of_drawArguments {ts : List Transaction} : ∀ {ws : List Word}, drawArguments ts = some ws →
    ts = ws.map (Transaction.write 0 .word) := by
  induction ts with
  | nil => intro ws h; cases h; rfl
  | cons t rest ih =>
    intro ws h
    simp only [drawArguments] at h
    split at h
    · rename_i w vs hw hvs
      injection h with h
      subst h
      rw [eq_write_of_drawWord hw, ih hvs, List.map_cons]
    · cases h

@[simp] theorem decode_drawWrites (w : Word) (args : List Word) :
    decode (.write 0 .word w :: args.map (Transaction.write 0 .word)) = decodeGp0 w args := by
  simp only [decode, drawWord_write, drawArguments_map]

@[simp] theorem decode_drawCommand (op : Opcode) (p : Color) (args : List Word) :
    decode (drawCommand op p args) = decodeGp0 (commandWord op p) args := by
  rw [drawCommand, decode_drawWrites]

@[simp] theorem decode_control (w : Word) : decode [.write 4 .word w] = .ok (decodeGp1 w) := rfl

@[simp] theorem decode_controlCommand (op1 : BitVec 6) (arg : BitVec 24) :
    decode (controlCommand op1 arg) = .ok (decodeGp1 (controlWord op1 arg)) := rfl

/-- A single-word draw command is decoded from its word alone. -/
theorem decodeGp0_of_none {w : Word} (h : kindOf (opOf w) = none) : decodeGp0 w [] = .ok (decodeImmediate w) := by
  simp [decodeGp0, h]

/-! ## Argument lists: what a shape answers, and that it answers for every list of its length -/

theorem takeFlat3_ok {k : VertexWord → VertexWord → VertexWord → Instr} {op : Opcode} {args : List Word} {i : Instr}
    (h : takeFlat3 k op args = .ok i) :
    ∃ a0 a1 a2, args = [a0, a1, a2] ∧ i = k (vertexOf a0) (vertexOf a1) (vertexOf a2) := by
  unfold takeFlat3 at h
  split at h
  · injection h with h
    exact ⟨_, _, _, rfl, h.symm⟩
  · cases h

theorem takeFlat3_of_length {k : VertexWord → VertexWord → VertexWord → Instr} {op : Opcode} {args : List Word}
    (h : args.length = 3) : ∃ i, takeFlat3 k op args = .ok i := by
  match args, h with
  | [a0, a1, a2], _ => exact ⟨_, rfl⟩

theorem takeFlatTex3_ok {k : VertexWord → TexWord → VertexWord → TexWord → VertexWord → TexWord → Instr}
    {op : Opcode} {args : List Word} {i : Instr}
    (h : takeFlatTex3 k op args = .ok i) :
    ∃ a0 a1 a2 a3 a4 a5, args = [a0, a1, a2, a3, a4, a5]
      ∧ i = k (vertexOf a0) (texOf a1) (vertexOf a2) (texOf a3) (vertexOf a4) (texOf a5) := by
  unfold takeFlatTex3 at h
  split at h
  · injection h with h
    exact ⟨_, _, _, _, _, _, rfl, h.symm⟩
  · cases h

theorem takeFlatTex3_of_length {k : VertexWord → TexWord → VertexWord → TexWord → VertexWord → TexWord → Instr}
    {op : Opcode} {args : List Word}
    (h : args.length = 6) : ∃ i, takeFlatTex3 k op args = .ok i := by
  match args, h with
  | [a0, a1, a2, a3, a4, a5], _ => exact ⟨_, rfl⟩

theorem takeFlat4_ok {k : VertexWord → VertexWord → VertexWord → VertexWord → Instr}
    {op : Opcode} {args : List Word} {i : Instr}
    (h : takeFlat4 k op args = .ok i) :
    ∃ a0 a1 a2 a3, args = [a0, a1, a2, a3] ∧ i = k (vertexOf a0) (vertexOf a1) (vertexOf a2) (vertexOf a3) := by
  unfold takeFlat4 at h
  split at h
  · injection h with h
    exact ⟨_, _, _, _, rfl, h.symm⟩
  · cases h

theorem takeFlat4_of_length {k : VertexWord → VertexWord → VertexWord → VertexWord → Instr}
    {op : Opcode} {args : List Word}
    (h : args.length = 4) : ∃ i, takeFlat4 k op args = .ok i := by
  match args, h with
  | [a0, a1, a2, a3], _ => exact ⟨_, rfl⟩

theorem takeFlatTex4_ok {k : VertexWord → TexWord → VertexWord → TexWord → VertexWord → TexWord → VertexWord → TexWord → Instr}
    {op : Opcode} {args : List Word} {i : Instr}
    (h : takeFlatTex4 k op args = .ok i) :
    ∃ a0 a1 a2 a3 a4 a5 a6 a7, args = [a0, a1, a2, a3, a4, a5, a6, a7]
      ∧ i = k (vertexOf a0) (texOf a1) (vertexOf a2) (texOf a3) (vertexOf a4) (texOf a5) (vertexOf a6) (texOf a7) := by
  unfold takeFlatTex4 at h
  split at h
  · injection h with h
    exact ⟨_, _, _, _, _, _, _, _, rfl, h.symm⟩
  · cases h

theorem takeFlatTex4_of_length {k : VertexWord → TexWord → VertexWord → TexWord → VertexWord → TexWord → VertexWord → TexWord → Instr}
    {op : Opcode} {args : List Word}
    (h : args.length = 8) : ∃ i, takeFlatTex4 k op args = .ok i := by
  match args, h with
  | [a0, a1, a2, a3, a4, a5, a6, a7], _ => exact ⟨_, rfl⟩

theorem takeGouraud3_ok {k : VertexWord → Color → VertexWord → Color → VertexWord → Instr}
    {op : Opcode} {args : List Word} {i : Instr}
    (h : takeGouraud3 k op args = .ok i) :
    ∃ a0 a1 a2 a3 a4, args = [a0, a1, a2, a3, a4]
      ∧ i = k (vertexOf a0) (colorOf a1) (vertexOf a2) (colorOf a3) (vertexOf a4) := by
  unfold takeGouraud3 at h
  split at h
  · injection h with h
    exact ⟨_, _, _, _, _, rfl, h.symm⟩
  · cases h

theorem takeGouraud3_of_length {k : VertexWord → Color → VertexWord → Color → VertexWord → Instr}
    {op : Opcode} {args : List Word}
    (h : args.length = 5) : ∃ i, takeGouraud3 k op args = .ok i := by
  match args, h with
  | [a0, a1, a2, a3, a4], _ => exact ⟨_, rfl⟩

theorem takeGouraudTex3_ok {k : VertexWord → TexWord → Color → VertexWord → TexWord → Color → VertexWord → TexWord → Instr}
    {op : Opcode} {args : List Word} {i : Instr}
    (h : takeGouraudTex3 k op args = .ok i) :
    ∃ a0 a1 a2 a3 a4 a5 a6 a7, args = [a0, a1, a2, a3, a4, a5, a6, a7]
      ∧ i = k (vertexOf a0) (texOf a1) (colorOf a2) (vertexOf a3) (texOf a4) (colorOf a5) (vertexOf a6) (texOf a7) := by
  unfold takeGouraudTex3 at h
  split at h
  · injection h with h
    exact ⟨_, _, _, _, _, _, _, _, rfl, h.symm⟩
  · cases h

theorem takeGouraudTex3_of_length {k : VertexWord → TexWord → Color → VertexWord → TexWord → Color → VertexWord → TexWord → Instr}
    {op : Opcode} {args : List Word}
    (h : args.length = 8) : ∃ i, takeGouraudTex3 k op args = .ok i := by
  match args, h with
  | [a0, a1, a2, a3, a4, a5, a6, a7], _ => exact ⟨_, rfl⟩

theorem takeGouraud4_ok {k : VertexWord → Color → VertexWord → Color → VertexWord → Color → VertexWord → Instr}
    {op : Opcode} {args : List Word} {i : Instr}
    (h : takeGouraud4 k op args = .ok i) :
    ∃ a0 a1 a2 a3 a4 a5 a6, args = [a0, a1, a2, a3, a4, a5, a6]
      ∧ i = k (vertexOf a0) (colorOf a1) (vertexOf a2) (colorOf a3) (vertexOf a4) (colorOf a5) (vertexOf a6) := by
  unfold takeGouraud4 at h
  split at h
  · injection h with h
    exact ⟨_, _, _, _, _, _, _, rfl, h.symm⟩
  · cases h

theorem takeGouraud4_of_length {k : VertexWord → Color → VertexWord → Color → VertexWord → Color → VertexWord → Instr}
    {op : Opcode} {args : List Word}
    (h : args.length = 7) : ∃ i, takeGouraud4 k op args = .ok i := by
  match args, h with
  | [a0, a1, a2, a3, a4, a5, a6], _ => exact ⟨_, rfl⟩

theorem takeGouraudTex4_ok {k : VertexWord → TexWord → Color → VertexWord → TexWord → Color → VertexWord → TexWord → Color → VertexWord → TexWord → Instr}
    {op : Opcode} {args : List Word} {i : Instr}
    (h : takeGouraudTex4 k op args = .ok i) :
    ∃ a0 a1 a2 a3 a4 a5 a6 a7 a8 a9 a10, args = [a0, a1, a2, a3, a4, a5, a6, a7, a8, a9, a10]
      ∧ i = k (vertexOf a0) (texOf a1) (colorOf a2) (vertexOf a3) (texOf a4) (colorOf a5) (vertexOf a6) (texOf a7) (colorOf a8) (vertexOf a9) (texOf a10) := by
  unfold takeGouraudTex4 at h
  split at h
  · injection h with h
    exact ⟨_, _, _, _, _, _, _, _, _, _, _, rfl, h.symm⟩
  · cases h

theorem takeGouraudTex4_of_length {k : VertexWord → TexWord → Color → VertexWord → TexWord → Color → VertexWord → TexWord → Color → VertexWord → TexWord → Instr}
    {op : Opcode} {args : List Word}
    (h : args.length = 11) : ∃ i, takeGouraudTex4 k op args = .ok i := by
  match args, h with
  | [a0, a1, a2, a3, a4, a5, a6, a7, a8, a9, a10], _ => exact ⟨_, rfl⟩

theorem takeRectSized_ok {k : VertexWord → VertexWord → Instr} {op : Opcode} {args : List Word} {i : Instr}
    (h : takeRectSized k op args = .ok i) : ∃ a0 a1, args = [a0, a1] ∧ i = k (vertexOf a0) (vertexOf a1) := by
  unfold takeRectSized at h
  split at h
  · injection h with h
    exact ⟨_, _, rfl, h.symm⟩
  · cases h

theorem takeRectSized_of_length {k : VertexWord → VertexWord → Instr} {op : Opcode} {args : List Word}
    (h : args.length = 2) : ∃ i, takeRectSized k op args = .ok i := by
  match args, h with
  | [a0, a1], _ => exact ⟨_, rfl⟩

theorem takeRectTexSized_ok {k : VertexWord → TexWord → VertexWord → Instr}
    {op : Opcode} {args : List Word} {i : Instr}
    (h : takeRectTexSized k op args = .ok i) :
    ∃ a0 a1 a2, args = [a0, a1, a2] ∧ i = k (vertexOf a0) (texOf a1) (vertexOf a2) := by
  unfold takeRectTexSized at h
  split at h
  · injection h with h
    exact ⟨_, _, _, rfl, h.symm⟩
  · cases h

theorem takeRectTexSized_of_length {k : VertexWord → TexWord → VertexWord → Instr} {op : Opcode} {args : List Word}
    (h : args.length = 3) : ∃ i, takeRectTexSized k op args = .ok i := by
  match args, h with
  | [a0, a1, a2], _ => exact ⟨_, rfl⟩

theorem takeRect_ok {k : VertexWord → Instr} {op : Opcode} {args : List Word} {i : Instr}
    (h : takeRect k op args = .ok i) : ∃ a0, args = [a0] ∧ i = k (vertexOf a0) := by
  unfold takeRect at h
  split at h
  · injection h with h
    exact ⟨_, rfl, h.symm⟩
  · cases h

theorem takeRect_of_length {k : VertexWord → Instr} {op : Opcode} {args : List Word}
    (h : args.length = 1) : ∃ i, takeRect k op args = .ok i := by
  match args, h with
  | [a0], _ => exact ⟨_, rfl⟩

theorem takeRectTex_ok {k : VertexWord → TexWord → Instr} {op : Opcode} {args : List Word} {i : Instr}
    (h : takeRectTex k op args = .ok i) : ∃ a0 a1, args = [a0, a1] ∧ i = k (vertexOf a0) (texOf a1) := by
  unfold takeRectTex at h
  split at h
  · injection h with h
    exact ⟨_, _, rfl, h.symm⟩
  · cases h

theorem takeRectTex_of_length {k : VertexWord → TexWord → Instr} {op : Opcode} {args : List Word}
    (h : args.length = 2) : ∃ i, takeRectTex k op args = .ok i := by
  match args, h with
  | [a0, a1], _ => exact ⟨_, rfl⟩

theorem takeLineFlat_ok {k : VertexWord → VertexWord → Instr} {op : Opcode} {args : List Word} {i : Instr}
    (h : takeLineFlat k op args = .ok i) : ∃ a0 a1, args = [a0, a1] ∧ i = k (vertexOf a0) (vertexOf a1) := by
  unfold takeLineFlat at h
  split at h
  · injection h with h
    exact ⟨_, _, rfl, h.symm⟩
  · cases h

theorem takeLineFlat_of_length {k : VertexWord → VertexWord → Instr} {op : Opcode} {args : List Word}
    (h : args.length = 2) : ∃ i, takeLineFlat k op args = .ok i := by
  match args, h with
  | [a0, a1], _ => exact ⟨_, rfl⟩

theorem takeLineGouraud_ok {k : VertexWord → Color → VertexWord → Instr} {op : Opcode} {args : List Word} {i : Instr}
    (h : takeLineGouraud k op args = .ok i) :
    ∃ a0 a1 a2, args = [a0, a1, a2] ∧ i = k (vertexOf a0) (colorOf a1) (vertexOf a2) := by
  unfold takeLineGouraud at h
  split at h
  · injection h with h
    exact ⟨_, _, _, rfl, h.symm⟩
  · cases h

theorem takeLineGouraud_of_length {k : VertexWord → Color → VertexWord → Instr} {op : Opcode} {args : List Word}
    (h : args.length = 3) : ∃ i, takeLineGouraud k op args = .ok i := by
  match args, h with
  | [a0, a1, a2], _ => exact ⟨_, rfl⟩

theorem takePairs2_ok {k : PairWord → PairWord → Instr} {op : Opcode} {args : List Word} {i : Instr}
    (h : takePairs2 k op args = .ok i) : ∃ a0 a1, args = [a0, a1] ∧ i = k (pairOf a0) (pairOf a1) := by
  unfold takePairs2 at h
  split at h
  · injection h with h
    exact ⟨_, _, rfl, h.symm⟩
  · cases h

theorem takePairs2_of_length {k : PairWord → PairWord → Instr} {op : Opcode} {args : List Word}
    (h : args.length = 2) : ∃ i, takePairs2 k op args = .ok i := by
  match args, h with
  | [a0, a1], _ => exact ⟨_, rfl⟩

theorem takePairs3_ok {k : PairWord → PairWord → PairWord → Instr} {op : Opcode} {args : List Word} {i : Instr}
    (h : takePairs3 k op args = .ok i) :
    ∃ a0 a1 a2, args = [a0, a1, a2] ∧ i = k (pairOf a0) (pairOf a1) (pairOf a2) := by
  unfold takePairs3 at h
  split at h
  · injection h with h
    exact ⟨_, _, _, rfl, h.symm⟩
  · cases h

theorem takePairs3_of_length {k : PairWord → PairWord → PairWord → Instr} {op : Opcode} {args : List Word}
    (h : args.length = 3) : ∃ i, takePairs3 k op args = .ok i := by
  match args, h with
  | [a0, a1, a2], _ => exact ⟨_, rfl⟩


theorem takePolyline_ok {k : List Word → Instr} {op : Opcode} {args : List Word} {i : Instr}
    (h : takePolyline k op args = .ok i) : polylineFits args = true ∧ i = k args := by
  unfold takePolyline at h
  split at h
  · rename_i hf
    injection h with h
    exact ⟨hf, h.symm⟩
  · cases h

theorem polylineFits_iff {args : List Word} : polylineFits args = true ↔ 1 ≤ args.length ∧ args.length ≤ 16 := by
  rw [polylineFits, Config.argBufWords, Bool.and_eq_true, decide_eq_true_eq, decide_eq_true_eq]

theorem takePolyline_of_fits {k : List Word → Instr} {op : Opcode} {args : List Word} (h : polylineFits args = true) :
    takePolyline k op args = .ok (k args) := by
  simp [takePolyline, h]

end Sys2Proof
end

