-- ==== Sys2Proof/Laws/Commands.lean ====
section
/-! SUPPORT. What the decoder answers for each class of draw command, and what the commands of a family do. -/

namespace Sys2Proof

set_option maxRecDepth 100000

/-! ## Opcodes of a class -/

theorem polygon_opcode : ∀ op : Opcode, kindOf op = some .polygon → ∃ n : Fin 32, op = BitVec.ofNat 8 (0x20 + n.val) := by
  decide

theorem line_opcode : ∀ op : Opcode, kindOf op = some .line → ∃ n : Fin 32, op = BitVec.ofNat 8 (0x40 + n.val) := by
  decide

theorem rect_opcode : ∀ op : Opcode, kindOf op = some .rect → ∃ n : Fin 32, op = BitVec.ofNat 8 (0x60 + n.val) := by
  decide

theorem fill_opcode : ∀ op : Opcode, kindOf op = some .fill → op = 0x02#8 := by decide

theorem copyVramVram_opcode : ∀ op : Opcode, kindOf op = some .copyVramVram → op = 0x80#8 := by decide

theorem copyCpuVram_opcode : ∀ op : Opcode, kindOf op = some .copyCpuVram → op = 0xA0#8 := by decide

theorem copyVramCpu_opcode : ∀ op : Opcode, kindOf op = some .copyVramCpu → op = 0xC0#8 := by decide

/-! ## Answers of the decoder by class -/

theorem decodePolygon_ok {op : Opcode} {c : Color} {args : List Word} {i : Instr} (hk : kindOf op = some .polygon)
    (h : decodePolygon op c args = .ok i) :
    args.length = argCount op ∧ i.wellFormed = true ∧ i.isPolygon = true := by
  obtain ⟨n, rfl⟩ := polygon_opcode op hk
  fin_cases n
  iterate 4 (obtain ⟨_, _, _, rfl, rfl⟩ := takeFlat3_ok h; exact ⟨rfl, rfl, rfl⟩)
  iterate 4 (obtain ⟨_, _, _, _, _, _, rfl, rfl⟩ := takeFlatTex3_ok h; exact ⟨rfl, rfl, rfl⟩)
  iterate 4 (obtain ⟨_, _, _, _, rfl, rfl⟩ := takeFlat4_ok h; exact ⟨rfl, rfl, rfl⟩)
  iterate 4 (obtain ⟨_, _, _, _, _, _, _, _, rfl, rfl⟩ := takeFlatTex4_ok h; exact ⟨rfl, rfl, rfl⟩)
  iterate 4 (obtain ⟨_, _, _, _, _, rfl, rfl⟩ := takeGouraud3_ok h; exact ⟨rfl, rfl, rfl⟩)
  iterate 4 (obtain ⟨_, _, _, _, _, _, _, _, rfl, rfl⟩ := takeGouraudTex3_ok h; exact ⟨rfl, rfl, rfl⟩)
  iterate 4 (obtain ⟨_, _, _, _, _, _, _, rfl, rfl⟩ := takeGouraud4_ok h; exact ⟨rfl, rfl, rfl⟩)
  iterate 4 (obtain ⟨_, _, _, _, _, _, _, _, _, _, _, rfl, rfl⟩ := takeGouraudTex4_ok h; exact ⟨rfl, rfl, rfl⟩)

theorem decodePolygon_of_length {op : Opcode} {c : Color} {args : List Word} (hk : kindOf op = some .polygon)
    (h : args.length = argCount op) : ∃ i, decodePolygon op c args = .ok i := by
  obtain ⟨n, rfl⟩ := polygon_opcode op hk
  fin_cases n
  iterate 4 exact takeFlat3_of_length h
  iterate 4 exact takeFlatTex3_of_length h
  iterate 4 exact takeFlat4_of_length h
  iterate 4 exact takeFlatTex4_of_length h
  iterate 4 exact takeGouraud3_of_length h
  iterate 4 exact takeGouraudTex3_of_length h
  iterate 4 exact takeGouraud4_of_length h
  iterate 4 exact takeGouraudTex4_of_length h

theorem decodeRect_ok {op : Opcode} {c : Color} {args : List Word} {i : Instr} (hk : kindOf op = some .rect)
    (h : decodeRect op c args = .ok i) :
    args.length = argCount op ∧ i.wellFormed = true ∧ i.isRect = true := by
  obtain ⟨n, rfl⟩ := rect_opcode op hk
  fin_cases n
  iterate 4 (obtain ⟨_, _, rfl, rfl⟩ := takeRectSized_ok h; exact ⟨rfl, rfl, rfl⟩)
  iterate 4 (obtain ⟨_, _, _, rfl, rfl⟩ := takeRectTexSized_ok h; exact ⟨rfl, rfl, rfl⟩)
  iterate 4 (obtain ⟨_, rfl, rfl⟩ := takeRect_ok h; exact ⟨rfl, rfl, rfl⟩)
  iterate 4 (obtain ⟨_, _, rfl, rfl⟩ := takeRectTex_ok h; exact ⟨rfl, rfl, rfl⟩)
  iterate 4 (obtain ⟨_, rfl, rfl⟩ := takeRect_ok h; exact ⟨rfl, rfl, rfl⟩)
  iterate 4 (obtain ⟨_, _, rfl, rfl⟩ := takeRectTex_ok h; exact ⟨rfl, rfl, rfl⟩)
  iterate 4 (obtain ⟨_, rfl, rfl⟩ := takeRect_ok h; exact ⟨rfl, rfl, rfl⟩)
  iterate 4 (obtain ⟨_, _, rfl, rfl⟩ := takeRectTex_ok h; exact ⟨rfl, rfl, rfl⟩)

theorem decodeRect_of_length {op : Opcode} {c : Color} {args : List Word} (hk : kindOf op = some .rect)
    (h : args.length = argCount op) : ∃ i, decodeRect op c args = .ok i := by
  obtain ⟨n, rfl⟩ := rect_opcode op hk
  fin_cases n
  iterate 4 exact takeRectSized_of_length h
  iterate 4 exact takeRectTexSized_of_length h
  iterate 4 exact takeRect_of_length h
  iterate 4 exact takeRectTex_of_length h
  iterate 4 exact takeRect_of_length h
  iterate 4 exact takeRectTex_of_length h
  iterate 4 exact takeRect_of_length h
  iterate 4 exact takeRectTex_of_length h

theorem decodeLine_single {op : Opcode} {c : Color} {args : List Word} {i : Instr} (hk : kindOf op = some .line)
    (hp : op.getLsbD 3 = false) (h : decodeLine op c args = .ok i) :
    args.length = argCount op ∧ i.wellFormed = true ∧ i.isLine = true := by
  obtain ⟨n, rfl⟩ := line_opcode op hk
  fin_cases n
  iterate 8 (obtain ⟨_, _, rfl, rfl⟩ := takeLineFlat_ok h; exact ⟨rfl, rfl, rfl⟩)
  iterate 8 exact absurd hp (by decide)
  iterate 8 (obtain ⟨_, _, _, rfl, rfl⟩ := takeLineGouraud_ok h; exact ⟨rfl, rfl, rfl⟩)
  iterate 8 exact absurd hp (by decide)

theorem decodeLine_of_length {op : Opcode} {c : Color} {args : List Word} (hk : kindOf op = some .line)
    (hp : op.getLsbD 3 = false) (h : args.length = argCount op) : ∃ i, decodeLine op c args = .ok i := by
  obtain ⟨n, rfl⟩ := line_opcode op hk
  fin_cases n
  iterate 8 exact takeLineFlat_of_length h
  iterate 8 exact absurd hp (by decide)
  iterate 8 exact takeLineGouraud_of_length h
  iterate 8 exact absurd hp (by decide)

theorem decodeLine_polyline {op : Opcode} {c : Color} {args : List Word} {i : Instr} (hk : kindOf op = some .line)
    (hp : op.getLsbD 3 = true) (h : decodeLine op c args = .ok i) :
    polylineFits args = true ∧ i.wellFormed = true ∧ i.isPolyline = true := by
  obtain ⟨n, rfl⟩ := line_opcode op hk
  fin_cases n
  iterate 8 exact absurd hp (by decide)
  iterate 8 (obtain ⟨hf, rfl⟩ := takePolyline_ok h; exact ⟨hf, hf, rfl⟩)
  iterate 8 exact absurd hp (by decide)
  iterate 8 (obtain ⟨hf, rfl⟩ := takePolyline_ok h; exact ⟨hf, hf, rfl⟩)

theorem decodeLine_of_fits {op : Opcode} {c : Color} {args : List Word} (hk : kindOf op = some .line)
    (hp : op.getLsbD 3 = true) (h : polylineFits args = true) : ∃ i, decodeLine op c args = .ok i := by
  obtain ⟨n, rfl⟩ := line_opcode op hk
  fin_cases n
  iterate 8 exact absurd hp (by decide)
  iterate 8 exact ⟨_, takePolyline_of_fits h⟩
  iterate 8 exact absurd hp (by decide)
  iterate 8 exact ⟨_, takePolyline_of_fits h⟩

/-! ## `decodeGp0` by class -/

theorem decodeGp0_fill {w : Word} (hk : kindOf (opOf w) = some .fill) (args : List Word) :
    decodeGp0 w args = takePairs2 (.fillRect (colorOf w)) (opOf w) args := by
  simp only [decodeGp0, hk]

theorem decodeGp0_polygon {w : Word} (hk : kindOf (opOf w) = some .polygon) (args : List Word) :
    decodeGp0 w args = decodePolygon (opOf w) (colorOf w) args := by
  simp only [decodeGp0, hk]

theorem decodeGp0_line {w : Word} (hk : kindOf (opOf w) = some .line) (args : List Word) :
    decodeGp0 w args = decodeLine (opOf w) (colorOf w) args := by
  simp only [decodeGp0, hk]

theorem decodeGp0_rect {w : Word} (hk : kindOf (opOf w) = some .rect) (args : List Word) :
    decodeGp0 w args = decodeRect (opOf w) (colorOf w) args := by
  simp only [decodeGp0, hk]

theorem decodeGp0_copyVramVram {w : Word} (hk : kindOf (opOf w) = some .copyVramVram) (args : List Word) :
    decodeGp0 w args = takePairs3 (.copyVramVram (colorOf w)) (opOf w) args := by
  simp only [decodeGp0, hk]

theorem decodeGp0_copyCpuVram {w : Word} (hk : kindOf (opOf w) = some .copyCpuVram) (args : List Word) :
    decodeGp0 w args = takePairs2 (.copyCpuVram (colorOf w)) (opOf w) args := by
  simp only [decodeGp0, hk]

theorem decodeGp0_copyVramCpu {w : Word} (hk : kindOf (opOf w) = some .copyVramCpu) (args : List Word) :
    decodeGp0 w args = takePairs2 (.copyVramCpu (colorOf w)) (opOf w) args := by
  simp only [decodeGp0, hk]

/-- A command word of a single-word class is a whole instruction and takes no argument. -/
theorem decodeGp0_immediate {w : Word} (hk : kindOf (opOf w) = none) {args : List Word} {i : Instr}
    (h : decodeGp0 w args = .ok i) : args = [] ∧ i = decodeImmediate w := by
  simp only [decodeGp0, hk] at h
  split at h
  · injection h with h
    exact ⟨rfl, h.symm⟩
  · cases h

end Sys2Proof

namespace Sys2Proof.Machine

/-! ## What a family's commands do -/

/-- A polygon command only emits, and leaves the decoder idle. -/
theorem exec_of_isPolygon {i : Instr} (h : i.isPolygon = true) (s : State) :
    ∃ es, exec i s = s.commit ((s.emit es).dispatched .idle) := by
  cases i <;> first | (cases h; done) | exact ⟨_, rfl⟩

/-- A single-line command only emits, and leaves the decoder idle. -/
theorem exec_of_isLine {i : Instr} (h : i.isLine = true) (s : State) :
    ∃ es, exec i s = s.commit ((s.emit es).dispatched .idle) := by
  cases i <;> first | (cases h; done) | exact ⟨_, rfl⟩

/-- A polyline command only emits, and leaves the decoder idle. -/
theorem exec_of_isPolyline {i : Instr} (h : i.isPolyline = true) (s : State) :
    ∃ es, exec i s = s.commit ((s.emit es).dispatched .idle) := by
  cases i <;> first | (cases h; done) | exact ⟨_, rfl⟩

/-- A rectangle command only emits, and leaves the decoder idle. -/
theorem exec_of_isRect {i : Instr} (h : i.isRect = true) (s : State) :
    ∃ es, exec i s = s.commit ((s.emit es).dispatched .idle) := by
  cases i <;> first | (cases h; done) | exact ⟨_, rfl⟩

end Sys2Proof.Machine
end

