-- ==== Sys2Proof/Laws/PerInstr.lean ====
section
/-! SUPPORT. The per-instruction family WordCount: how many transactions bring each instruction to the block. -/

namespace Sys2Proof.Laws.WordCount

/-- A well-formed instruction is one transaction, and as many argument words after it as the opcode of a draw command
word takes: 1 to 16 for a polyline (40_command_decoder R140, 30_encoding R98). -/
def Statement (i : Instr) : Prop :=
  i.wellFormed = true →
    ∃ t rest, encode i = t :: rest ∧
      match drawWord t with
      | some w => if i.isPolyline then 1 ≤ rest.length ∧ rest.length ≤ 16 else rest.length = argCount (opOf w)
      | none => rest = []

/-- A word of an unknown row takes no argument word. -/
theorem argCount_of_fitsRow {m p : BitVec 8} {w : Word} (h : fitsRow (m ++ 0#24) (p ++ 0#24) w = true)
    (hp : ∀ op : Opcode, op &&& m = p → argCount op = 0) : 0 = argCount (opOf w) := by
  refine (hp _ ?_).symm
  have h := congrArg opOf (beq_iff_eq.1 h)
  simpa only [opOf, BitVec.extractLsb'_and, extract_append_left] using h

/-- The argument count of a command word, from its opcode. -/
theorem argCount_commandWord (op : Opcode) (c : Color) (n : Nat) (h : n = argCount op) :
    n = argCount (opOf (commandWord op c)) := by
  rw [opOf_commandWord, h]

/-- The bounds of a polyline's argument writes. -/
theorem polylineFits_iff_length {args : List Word} :
    polylineFits args = true ↔
      1 ≤ (args.map (Transaction.write 0 .word)).length ∧ (args.map (Transaction.write 0 .word)).length ≤ 16 := by
  rw [List.length_map, polylineFits_iff]

theorem nop : Statement .nop := fun _ => ⟨_, _, rfl, argCount_commandWord _ _ _ rfl⟩

theorem clearCache : Statement .clearCache := fun _ => ⟨_, _, rfl, argCount_commandWord _ _ _ rfl⟩

theorem fillRect (c : Color) (pos size : PairWord) : Statement (.fillRect c pos size) := fun _ => ⟨_, _, rfl, argCount_commandWord _ _ _ rfl⟩

theorem irqRequest : Statement .irqRequest := fun _ => ⟨_, _, rfl, argCount_commandWord _ _ _ rfl⟩

theorem polyF3 (c0 : Color) (v0 v1 v2 : VertexWord) : Statement (.polyF3 c0 v0 v1 v2) := fun _ => ⟨_, _, rfl, argCount_commandWord _ _ _ rfl⟩

theorem polyF3R (c0 : Color) (v0 v1 v2 : VertexWord) : Statement (.polyF3R c0 v0 v1 v2) := fun _ => ⟨_, _, rfl, argCount_commandWord _ _ _ rfl⟩

theorem polyF3S (c0 : Color) (v0 v1 v2 : VertexWord) : Statement (.polyF3S c0 v0 v1 v2) := fun _ => ⟨_, _, rfl, argCount_commandWord _ _ _ rfl⟩

theorem polyF3SR (c0 : Color) (v0 v1 v2 : VertexWord) : Statement (.polyF3SR c0 v0 v1 v2) := fun _ => ⟨_, _, rfl, argCount_commandWord _ _ _ rfl⟩

theorem polyFT3 (c0 : Color) (v0 : VertexWord) (t0 : TexWord) (v1 : VertexWord) (t1 : TexWord) (v2 : VertexWord) (t2 : TexWord) : Statement (.polyFT3 c0 v0 t0 v1 t1 v2 t2) := fun _ => ⟨_, _, rfl, argCount_commandWord _ _ _ rfl⟩

theorem polyFT3R (c0 : Color) (v0 : VertexWord) (t0 : TexWord) (v1 : VertexWord) (t1 : TexWord) (v2 : VertexWord) (t2 : TexWord) : Statement (.polyFT3R c0 v0 t0 v1 t1 v2 t2) := fun _ => ⟨_, _, rfl, argCount_commandWord _ _ _ rfl⟩

theorem polyFT3S (c0 : Color) (v0 : VertexWord) (t0 : TexWord) (v1 : VertexWord) (t1 : TexWord) (v2 : VertexWord) (t2 : TexWord) : Statement (.polyFT3S c0 v0 t0 v1 t1 v2 t2) := fun _ => ⟨_, _, rfl, argCount_commandWord _ _ _ rfl⟩

theorem polyFT3SR (c0 : Color) (v0 : VertexWord) (t0 : TexWord) (v1 : VertexWord) (t1 : TexWord) (v2 : VertexWord) (t2 : TexWord) : Statement (.polyFT3SR c0 v0 t0 v1 t1 v2 t2) := fun _ => ⟨_, _, rfl, argCount_commandWord _ _ _ rfl⟩

theorem polyF4 (c0 : Color) (v0 v1 v2 v3 : VertexWord) : Statement (.polyF4 c0 v0 v1 v2 v3) := fun _ => ⟨_, _, rfl, argCount_commandWord _ _ _ rfl⟩

theorem polyF4R (c0 : Color) (v0 v1 v2 v3 : VertexWord) : Statement (.polyF4R c0 v0 v1 v2 v3) := fun _ => ⟨_, _, rfl, argCount_commandWord _ _ _ rfl⟩

theorem polyF4S (c0 : Color) (v0 v1 v2 v3 : VertexWord) : Statement (.polyF4S c0 v0 v1 v2 v3) := fun _ => ⟨_, _, rfl, argCount_commandWord _ _ _ rfl⟩

theorem polyF4SR (c0 : Color) (v0 v1 v2 v3 : VertexWord) : Statement (.polyF4SR c0 v0 v1 v2 v3) := fun _ => ⟨_, _, rfl, argCount_commandWord _ _ _ rfl⟩

theorem polyFT4 (c0 : Color) (v0 : VertexWord) (t0 : TexWord) (v1 : VertexWord) (t1 : TexWord) (v2 : VertexWord) (t2 : TexWord) (v3 : VertexWord) (t3 : TexWord) : Statement (.polyFT4 c0 v0 t0 v1 t1 v2 t2 v3 t3) := fun _ => ⟨_, _, rfl, argCount_commandWord _ _ _ rfl⟩

theorem polyFT4R (c0 : Color) (v0 : VertexWord) (t0 : TexWord) (v1 : VertexWord) (t1 : TexWord) (v2 : VertexWord) (t2 : TexWord) (v3 : VertexWord) (t3 : TexWord) : Statement (.polyFT4R c0 v0 t0 v1 t1 v2 t2 v3 t3) := fun _ => ⟨_, _, rfl, argCount_commandWord _ _ _ rfl⟩

theorem polyFT4S (c0 : Color) (v0 : VertexWord) (t0 : TexWord) (v1 : VertexWord) (t1 : TexWord) (v2 : VertexWord) (t2 : TexWord) (v3 : VertexWord) (t3 : TexWord) : Statement (.polyFT4S c0 v0 t0 v1 t1 v2 t2 v3 t3) := fun _ => ⟨_, _, rfl, argCount_commandWord _ _ _ rfl⟩

theorem polyFT4SR (c0 : Color) (v0 : VertexWord) (t0 : TexWord) (v1 : VertexWord) (t1 : TexWord) (v2 : VertexWord) (t2 : TexWord) (v3 : VertexWord) (t3 : TexWord) : Statement (.polyFT4SR c0 v0 t0 v1 t1 v2 t2 v3 t3) := fun _ => ⟨_, _, rfl, argCount_commandWord _ _ _ rfl⟩

theorem polyG3 (c0 : Color) (v0 : VertexWord) (c1 : Color) (v1 : VertexWord) (c2 : Color) (v2 : VertexWord) : Statement (.polyG3 c0 v0 c1 v1 c2 v2) := fun _ => ⟨_, _, rfl, argCount_commandWord _ _ _ rfl⟩

theorem polyG3R (c0 : Color) (v0 : VertexWord) (c1 : Color) (v1 : VertexWord) (c2 : Color) (v2 : VertexWord) : Statement (.polyG3R c0 v0 c1 v1 c2 v2) := fun _ => ⟨_, _, rfl, argCount_commandWord _ _ _ rfl⟩

theorem polyG3S (c0 : Color) (v0 : VertexWord) (c1 : Color) (v1 : VertexWord) (c2 : Color) (v2 : VertexWord) : Statement (.polyG3S c0 v0 c1 v1 c2 v2) := fun _ => ⟨_, _, rfl, argCount_commandWord _ _ _ rfl⟩

theorem polyG3SR (c0 : Color) (v0 : VertexWord) (c1 : Color) (v1 : VertexWord) (c2 : Color) (v2 : VertexWord) : Statement (.polyG3SR c0 v0 c1 v1 c2 v2) := fun _ => ⟨_, _, rfl, argCount_commandWord _ _ _ rfl⟩

theorem polyGT3 (c0 : Color) (v0 : VertexWord) (t0 : TexWord) (c1 : Color) (v1 : VertexWord) (t1 : TexWord) (c2 : Color) (v2 : VertexWord) (t2 : TexWord) : Statement (.polyGT3 c0 v0 t0 c1 v1 t1 c2 v2 t2) := fun _ => ⟨_, _, rfl, argCount_commandWord _ _ _ rfl⟩

theorem polyGT3R (c0 : Color) (v0 : VertexWord) (t0 : TexWord) (c1 : Color) (v1 : VertexWord) (t1 : TexWord) (c2 : Color) (v2 : VertexWord) (t2 : TexWord) : Statement (.polyGT3R c0 v0 t0 c1 v1 t1 c2 v2 t2) := fun _ => ⟨_, _, rfl, argCount_commandWord _ _ _ rfl⟩

theorem polyGT3S (c0 : Color) (v0 : VertexWord) (t0 : TexWord) (c1 : Color) (v1 : VertexWord) (t1 : TexWord) (c2 : Color) (v2 : VertexWord) (t2 : TexWord) : Statement (.polyGT3S c0 v0 t0 c1 v1 t1 c2 v2 t2) := fun _ => ⟨_, _, rfl, argCount_commandWord _ _ _ rfl⟩

theorem polyGT3SR (c0 : Color) (v0 : VertexWord) (t0 : TexWord) (c1 : Color) (v1 : VertexWord) (t1 : TexWord) (c2 : Color) (v2 : VertexWord) (t2 : TexWord) : Statement (.polyGT3SR c0 v0 t0 c1 v1 t1 c2 v2 t2) := fun _ => ⟨_, _, rfl, argCount_commandWord _ _ _ rfl⟩

theorem polyG4 (c0 : Color) (v0 : VertexWord) (c1 : Color) (v1 : VertexWord) (c2 : Color) (v2 : VertexWord) (c3 : Color) (v3 : VertexWord) : Statement (.polyG4 c0 v0 c1 v1 c2 v2 c3 v3) := fun _ => ⟨_, _, rfl, argCount_commandWord _ _ _ rfl⟩

theorem polyG4R (c0 : Color) (v0 : VertexWord) (c1 : Color) (v1 : VertexWord) (c2 : Color) (v2 : VertexWord) (c3 : Color) (v3 : VertexWord) : Statement (.polyG4R c0 v0 c1 v1 c2 v2 c3 v3) := fun _ => ⟨_, _, rfl, argCount_commandWord _ _ _ rfl⟩

theorem polyG4S (c0 : Color) (v0 : VertexWord) (c1 : Color) (v1 : VertexWord) (c2 : Color) (v2 : VertexWord) (c3 : Color) (v3 : VertexWord) : Statement (.polyG4S c0 v0 c1 v1 c2 v2 c3 v3) := fun _ => ⟨_, _, rfl, argCount_commandWord _ _ _ rfl⟩

theorem polyG4SR (c0 : Color) (v0 : VertexWord) (c1 : Color) (v1 : VertexWord) (c2 : Color) (v2 : VertexWord) (c3 : Color) (v3 : VertexWord) : Statement (.polyG4SR c0 v0 c1 v1 c2 v2 c3 v3) := fun _ => ⟨_, _, rfl, argCount_commandWord _ _ _ rfl⟩

theorem polyGT4 (c0 : Color) (v0 : VertexWord) (t0 : TexWord) (c1 : Color) (v1 : VertexWord) (t1 : TexWord) (c2 : Color) (v2 : VertexWord) (t2 : TexWord) (c3 : Color) (v3 : VertexWord) (t3 : TexWord) : Statement (.polyGT4 c0 v0 t0 c1 v1 t1 c2 v2 t2 c3 v3 t3) := fun _ => ⟨_, _, rfl, argCount_commandWord _ _ _ rfl⟩

theorem polyGT4R (c0 : Color) (v0 : VertexWord) (t0 : TexWord) (c1 : Color) (v1 : VertexWord) (t1 : TexWord) (c2 : Color) (v2 : VertexWord) (t2 : TexWord) (c3 : Color) (v3 : VertexWord) (t3 : TexWord) : Statement (.polyGT4R c0 v0 t0 c1 v1 t1 c2 v2 t2 c3 v3 t3) := fun _ => ⟨_, _, rfl, argCount_commandWord _ _ _ rfl⟩

theorem polyGT4S (c0 : Color) (v0 : VertexWord) (t0 : TexWord) (c1 : Color) (v1 : VertexWord) (t1 : TexWord) (c2 : Color) (v2 : VertexWord) (t2 : TexWord) (c3 : Color) (v3 : VertexWord) (t3 : TexWord) : Statement (.polyGT4S c0 v0 t0 c1 v1 t1 c2 v2 t2 c3 v3 t3) := fun _ => ⟨_, _, rfl, argCount_commandWord _ _ _ rfl⟩

theorem polyGT4SR (c0 : Color) (v0 : VertexWord) (t0 : TexWord) (c1 : Color) (v1 : VertexWord) (t1 : TexWord) (c2 : Color) (v2 : VertexWord) (t2 : TexWord) (c3 : Color) (v3 : VertexWord) (t3 : TexWord) : Statement (.polyGT4SR c0 v0 t0 c1 v1 t1 c2 v2 t2 c3 v3 t3) := fun _ => ⟨_, _, rfl, argCount_commandWord _ _ _ rfl⟩

theorem lineF (c0 : Color) (v0 v1 : VertexWord) : Statement (.lineF c0 v0 v1) := fun _ => ⟨_, _, rfl, argCount_commandWord _ _ _ rfl⟩

theorem lineF41 (c0 : Color) (v0 v1 : VertexWord) : Statement (.lineF41 c0 v0 v1) := fun _ => ⟨_, _, rfl, argCount_commandWord _ _ _ rfl⟩

theorem lineFS (c0 : Color) (v0 v1 : VertexWord) : Statement (.lineFS c0 v0 v1) := fun _ => ⟨_, _, rfl, argCount_commandWord _ _ _ rfl⟩

theorem lineFS43 (c0 : Color) (v0 v1 : VertexWord) : Statement (.lineFS43 c0 v0 v1) := fun _ => ⟨_, _, rfl, argCount_commandWord _ _ _ rfl⟩

theorem lineF44 (c0 : Color) (v0 v1 : VertexWord) : Statement (.lineF44 c0 v0 v1) := fun _ => ⟨_, _, rfl, argCount_commandWord _ _ _ rfl⟩

theorem lineF45 (c0 : Color) (v0 v1 : VertexWord) : Statement (.lineF45 c0 v0 v1) := fun _ => ⟨_, _, rfl, argCount_commandWord _ _ _ rfl⟩

theorem lineFS46 (c0 : Color) (v0 v1 : VertexWord) : Statement (.lineFS46 c0 v0 v1) := fun _ => ⟨_, _, rfl, argCount_commandWord _ _ _ rfl⟩

theorem lineFS47 (c0 : Color) (v0 v1 : VertexWord) : Statement (.lineFS47 c0 v0 v1) := fun _ => ⟨_, _, rfl, argCount_commandWord _ _ _ rfl⟩

theorem plineF (c0 : Color) (args : List Word) : Statement (.plineF c0 args) := fun h => ⟨_, _, rfl, polylineFits_iff_length.1 h⟩

theorem plineF49 (c0 : Color) (args : List Word) : Statement (.plineF49 c0 args) := fun h => ⟨_, _, rfl, polylineFits_iff_length.1 h⟩

theorem plineFS (c0 : Color) (args : List Word) : Statement (.plineFS c0 args) := fun h => ⟨_, _, rfl, polylineFits_iff_length.1 h⟩

theorem plineFS4B (c0 : Color) (args : List Word) : Statement (.plineFS4B c0 args) := fun h => ⟨_, _, rfl, polylineFits_iff_length.1 h⟩

theorem plineF4C (c0 : Color) (args : List Word) : Statement (.plineF4C c0 args) := fun h => ⟨_, _, rfl, polylineFits_iff_length.1 h⟩

theorem plineF4D (c0 : Color) (args : List Word) : Statement (.plineF4D c0 args) := fun h => ⟨_, _, rfl, polylineFits_iff_length.1 h⟩

theorem plineFS4E (c0 : Color) (args : List Word) : Statement (.plineFS4E c0 args) := fun h => ⟨_, _, rfl, polylineFits_iff_length.1 h⟩

theorem plineFS4F (c0 : Color) (args : List Word) : Statement (.plineFS4F c0 args) := fun h => ⟨_, _, rfl, polylineFits_iff_length.1 h⟩

theorem lineG (c0 : Color) (v0 : VertexWord) (c1 : Color) (v1 : VertexWord) : Statement (.lineG c0 v0 c1 v1) := fun _ => ⟨_, _, rfl, argCount_commandWord _ _ _ rfl⟩

theorem lineG51 (c0 : Color) (v0 : VertexWord) (c1 : Color) (v1 : VertexWord) : Statement (.lineG51 c0 v0 c1 v1) := fun _ => ⟨_, _, rfl, argCount_commandWord _ _ _ rfl⟩

theorem lineGS (c0 : Color) (v0 : VertexWord) (c1 : Color) (v1 : VertexWord) : Statement (.lineGS c0 v0 c1 v1) := fun _ => ⟨_, _, rfl, argCount_commandWord _ _ _ rfl⟩

theorem lineGS53 (c0 : Color) (v0 : VertexWord) (c1 : Color) (v1 : VertexWord) : Statement (.lineGS53 c0 v0 c1 v1) := fun _ => ⟨_, _, rfl, argCount_commandWord _ _ _ rfl⟩

theorem lineG54 (c0 : Color) (v0 : VertexWord) (c1 : Color) (v1 : VertexWord) : Statement (.lineG54 c0 v0 c1 v1) := fun _ => ⟨_, _, rfl, argCount_commandWord _ _ _ rfl⟩

theorem lineG55 (c0 : Color) (v0 : VertexWord) (c1 : Color) (v1 : VertexWord) : Statement (.lineG55 c0 v0 c1 v1) := fun _ => ⟨_, _, rfl, argCount_commandWord _ _ _ rfl⟩

theorem lineGS56 (c0 : Color) (v0 : VertexWord) (c1 : Color) (v1 : VertexWord) : Statement (.lineGS56 c0 v0 c1 v1) := fun _ => ⟨_, _, rfl, argCount_commandWord _ _ _ rfl⟩

theorem lineGS57 (c0 : Color) (v0 : VertexWord) (c1 : Color) (v1 : VertexWord) : Statement (.lineGS57 c0 v0 c1 v1) := fun _ => ⟨_, _, rfl, argCount_commandWord _ _ _ rfl⟩

theorem plineG (c0 : Color) (args : List Word) : Statement (.plineG c0 args) := fun h => ⟨_, _, rfl, polylineFits_iff_length.1 h⟩

theorem plineG59 (c0 : Color) (args : List Word) : Statement (.plineG59 c0 args) := fun h => ⟨_, _, rfl, polylineFits_iff_length.1 h⟩

theorem plineGS (c0 : Color) (args : List Word) : Statement (.plineGS c0 args) := fun h => ⟨_, _, rfl, polylineFits_iff_length.1 h⟩

theorem plineGS5B (c0 : Color) (args : List Word) : Statement (.plineGS5B c0 args) := fun h => ⟨_, _, rfl, polylineFits_iff_length.1 h⟩

theorem plineG5C (c0 : Color) (args : List Word) : Statement (.plineG5C c0 args) := fun h => ⟨_, _, rfl, polylineFits_iff_length.1 h⟩

theorem plineG5D (c0 : Color) (args : List Word) : Statement (.plineG5D c0 args) := fun h => ⟨_, _, rfl, polylineFits_iff_length.1 h⟩

theorem plineGS5E (c0 : Color) (args : List Word) : Statement (.plineGS5E c0 args) := fun h => ⟨_, _, rfl, polylineFits_iff_length.1 h⟩

theorem plineGS5F (c0 : Color) (args : List Word) : Statement (.plineGS5F c0 args) := fun h => ⟨_, _, rfl, polylineFits_iff_length.1 h⟩

theorem rectV (c : Color) (pos size : VertexWord) : Statement (.rectV c pos size) := fun _ => ⟨_, _, rfl, argCount_commandWord _ _ _ rfl⟩

theorem rectVR (c : Color) (pos size : VertexWord) : Statement (.rectVR c pos size) := fun _ => ⟨_, _, rfl, argCount_commandWord _ _ _ rfl⟩

theorem rectVS (c : Color) (pos size : VertexWord) : Statement (.rectVS c pos size) := fun _ => ⟨_, _, rfl, argCount_commandWord _ _ _ rfl⟩

theorem rectVSR (c : Color) (pos size : VertexWord) : Statement (.rectVSR c pos size) := fun _ => ⟨_, _, rfl, argCount_commandWord _ _ _ rfl⟩

theorem rectVT (c : Color) (pos : VertexWord) (tex : TexWord) (size : VertexWord) : Statement (.rectVT c pos tex size) := fun _ => ⟨_, _, rfl, argCount_commandWord _ _ _ rfl⟩

theorem rectVTR (c : Color) (pos : VertexWord) (tex : TexWord) (size : VertexWord) : Statement (.rectVTR c pos tex size) := fun _ => ⟨_, _, rfl, argCount_commandWord _ _ _ rfl⟩

theorem rectVTS (c : Color) (pos : VertexWord) (tex : TexWord) (size : VertexWord) : Statement (.rectVTS c pos tex size) := fun _ => ⟨_, _, rfl, argCount_commandWord _ _ _ rfl⟩

theorem rectVTSR (c : Color) (pos : VertexWord) (tex : TexWord) (size : VertexWord) : Statement (.rectVTSR c pos tex size) := fun _ => ⟨_, _, rfl, argCount_commandWord _ _ _ rfl⟩

theorem rect1 (c : Color) (pos : VertexWord) : Statement (.rect1 c pos) := fun _ => ⟨_, _, rfl, argCount_commandWord _ _ _ rfl⟩

theorem rect1R (c : Color) (pos : VertexWord) : Statement (.rect1R c pos) := fun _ => ⟨_, _, rfl, argCount_commandWord _ _ _ rfl⟩

theorem rect1S (c : Color) (pos : VertexWord) : Statement (.rect1S c pos) := fun _ => ⟨_, _, rfl, argCount_commandWord _ _ _ rfl⟩

theorem rect1SR (c : Color) (pos : VertexWord) : Statement (.rect1SR c pos) := fun _ => ⟨_, _, rfl, argCount_commandWord _ _ _ rfl⟩

theorem rect1T (c : Color) (pos : VertexWord) (tex : TexWord) : Statement (.rect1T c pos tex) := fun _ => ⟨_, _, rfl, argCount_commandWord _ _ _ rfl⟩

theorem rect1TR (c : Color) (pos : VertexWord) (tex : TexWord) : Statement (.rect1TR c pos tex) := fun _ => ⟨_, _, rfl, argCount_commandWord _ _ _ rfl⟩

theorem rect1TS (c : Color) (pos : VertexWord) (tex : TexWord) : Statement (.rect1TS c pos tex) := fun _ => ⟨_, _, rfl, argCount_commandWord _ _ _ rfl⟩

theorem rect1TSR (c : Color) (pos : VertexWord) (tex : TexWord) : Statement (.rect1TSR c pos tex) := fun _ => ⟨_, _, rfl, argCount_commandWord _ _ _ rfl⟩

theorem rect8 (c : Color) (pos : VertexWord) : Statement (.rect8 c pos) := fun _ => ⟨_, _, rfl, argCount_commandWord _ _ _ rfl⟩

theorem rect8R (c : Color) (pos : VertexWord) : Statement (.rect8R c pos) := fun _ => ⟨_, _, rfl, argCount_commandWord _ _ _ rfl⟩

theorem rect8S (c : Color) (pos : VertexWord) : Statement (.rect8S c pos) := fun _ => ⟨_, _, rfl, argCount_commandWord _ _ _ rfl⟩

theorem rect8SR (c : Color) (pos : VertexWord) : Statement (.rect8SR c pos) := fun _ => ⟨_, _, rfl, argCount_commandWord _ _ _ rfl⟩

theorem rect8T (c : Color) (pos : VertexWord) (tex : TexWord) : Statement (.rect8T c pos tex) := fun _ => ⟨_, _, rfl, argCount_commandWord _ _ _ rfl⟩

theorem rect8TR (c : Color) (pos : VertexWord) (tex : TexWord) : Statement (.rect8TR c pos tex) := fun _ => ⟨_, _, rfl, argCount_commandWord _ _ _ rfl⟩

theorem rect8TS (c : Color) (pos : VertexWord) (tex : TexWord) : Statement (.rect8TS c pos tex) := fun _ => ⟨_, _, rfl, argCount_commandWord _ _ _ rfl⟩

theorem rect8TSR (c : Color) (pos : VertexWord) (tex : TexWord) : Statement (.rect8TSR c pos tex) := fun _ => ⟨_, _, rfl, argCount_commandWord _ _ _ rfl⟩

theorem rect16 (c : Color) (pos : VertexWord) : Statement (.rect16 c pos) := fun _ => ⟨_, _, rfl, argCount_commandWord _ _ _ rfl⟩

theorem rect16R (c : Color) (pos : VertexWord) : Statement (.rect16R c pos) := fun _ => ⟨_, _, rfl, argCount_commandWord _ _ _ rfl⟩

theorem rect16S (c : Color) (pos : VertexWord) : Statement (.rect16S c pos) := fun _ => ⟨_, _, rfl, argCount_commandWord _ _ _ rfl⟩

theorem rect16SR (c : Color) (pos : VertexWord) : Statement (.rect16SR c pos) := fun _ => ⟨_, _, rfl, argCount_commandWord _ _ _ rfl⟩

theorem rect16T (c : Color) (pos : VertexWord) (tex : TexWord) : Statement (.rect16T c pos tex) := fun _ => ⟨_, _, rfl, argCount_commandWord _ _ _ rfl⟩

theorem rect16TR (c : Color) (pos : VertexWord) (tex : TexWord) : Statement (.rect16TR c pos tex) := fun _ => ⟨_, _, rfl, argCount_commandWord _ _ _ rfl⟩

theorem rect16TS (c : Color) (pos : VertexWord) (tex : TexWord) : Statement (.rect16TS c pos tex) := fun _ => ⟨_, _, rfl, argCount_commandWord _ _ _ rfl⟩

theorem rect16TSR (c : Color) (pos : VertexWord) (tex : TexWord) : Statement (.rect16TSR c pos tex) := fun _ => ⟨_, _, rfl, argCount_commandWord _ _ _ rfl⟩

theorem copyVramVram (reserved : Color) (src dst size : PairWord) : Statement (.copyVramVram reserved src dst size) := fun _ => ⟨_, _, rfl, argCount_commandWord _ _ _ rfl⟩

theorem copyCpuVram (reserved : Color) (dst size : PairWord) : Statement (.copyCpuVram reserved dst size) := fun _ => ⟨_, _, rfl, argCount_commandWord _ _ _ rfl⟩

theorem copyVramCpu (reserved : Color) (src size : PairWord) : Statement (.copyVramCpu reserved src size) := fun _ => ⟨_, _, rfl, argCount_commandWord _ _ _ rfl⟩

theorem setDrawMode (param : BitVec 24) : Statement (.setDrawMode param) := fun _ => ⟨_, _, rfl, argCount_commandWord _ _ _ rfl⟩

theorem setTexWindow (param : BitVec 24) : Statement (.setTexWindow param) := fun _ => ⟨_, _, rfl, argCount_commandWord _ _ _ rfl⟩

theorem setClipTl (x y : BitVec 10) : Statement (.setClipTl x y) := fun _ => ⟨_, _, rfl, argCount_commandWord _ _ _ rfl⟩

theorem setClipBr (x y : BitVec 10) : Statement (.setClipBr x y) := fun _ => ⟨_, _, rfl, argCount_commandWord _ _ _ rfl⟩

theorem setOffset (x y : BitVec 11) : Statement (.setOffset x y) := fun _ => ⟨_, _, rfl, argCount_commandWord _ _ _ rfl⟩

theorem setMask (setBit checkBit : Bool) : Statement (.setMask setBit checkBit) := fun _ => ⟨_, _, rfl, argCount_commandWord _ _ _ rfl⟩

theorem unknown03 (word : Word) : Statement (.unknown03 word) := fun h =>
  ⟨_, _, rfl, argCount_of_fitsRow (m := 0xFF#8) (p := 0x03#8) h (by decide)⟩

theorem unknown04_07 (word : Word) : Statement (.unknown04_07 word) := fun h =>
  ⟨_, _, rfl, argCount_of_fitsRow (m := 0xFC#8) (p := 0x04#8) h (by decide)⟩

theorem unknown08_0F (word : Word) : Statement (.unknown08_0F word) := fun h =>
  ⟨_, _, rfl, argCount_of_fitsRow (m := 0xF8#8) (p := 0x08#8) h (by decide)⟩

theorem unknown10_17 (word : Word) : Statement (.unknown10_17 word) := fun h =>
  ⟨_, _, rfl, argCount_of_fitsRow (m := 0xF8#8) (p := 0x10#8) h (by decide)⟩

theorem unknown18_1B (word : Word) : Statement (.unknown18_1B word) := fun h =>
  ⟨_, _, rfl, argCount_of_fitsRow (m := 0xFC#8) (p := 0x18#8) h (by decide)⟩

theorem unknown1C_1D (word : Word) : Statement (.unknown1C_1D word) := fun h =>
  ⟨_, _, rfl, argCount_of_fitsRow (m := 0xFE#8) (p := 0x1C#8) h (by decide)⟩

theorem unknown1E (word : Word) : Statement (.unknown1E word) := fun h =>
  ⟨_, _, rfl, argCount_of_fitsRow (m := 0xFF#8) (p := 0x1E#8) h (by decide)⟩

theorem unknown81 (word : Word) : Statement (.unknown81 word) := fun h =>
  ⟨_, _, rfl, argCount_of_fitsRow (m := 0xFF#8) (p := 0x81#8) h (by decide)⟩

theorem unknown82_83 (word : Word) : Statement (.unknown82_83 word) := fun h =>
  ⟨_, _, rfl, argCount_of_fitsRow (m := 0xFE#8) (p := 0x82#8) h (by decide)⟩

theorem unknown84_87 (word : Word) : Statement (.unknown84_87 word) := fun h =>
  ⟨_, _, rfl, argCount_of_fitsRow (m := 0xFC#8) (p := 0x84#8) h (by decide)⟩

theorem unknown88_8F (word : Word) : Statement (.unknown88_8F word) := fun h =>
  ⟨_, _, rfl, argCount_of_fitsRow (m := 0xF8#8) (p := 0x88#8) h (by decide)⟩

theorem unknown90_9F (word : Word) : Statement (.unknown90_9F word) := fun h =>
  ⟨_, _, rfl, argCount_of_fitsRow (m := 0xF0#8) (p := 0x90#8) h (by decide)⟩

theorem unknownA1 (word : Word) : Statement (.unknownA1 word) := fun h =>
  ⟨_, _, rfl, argCount_of_fitsRow (m := 0xFF#8) (p := 0xA1#8) h (by decide)⟩

theorem unknownA2_A3 (word : Word) : Statement (.unknownA2_A3 word) := fun h =>
  ⟨_, _, rfl, argCount_of_fitsRow (m := 0xFE#8) (p := 0xA2#8) h (by decide)⟩

theorem unknownA4_A7 (word : Word) : Statement (.unknownA4_A7 word) := fun h =>
  ⟨_, _, rfl, argCount_of_fitsRow (m := 0xFC#8) (p := 0xA4#8) h (by decide)⟩

theorem unknownA8_AF (word : Word) : Statement (.unknownA8_AF word) := fun h =>
  ⟨_, _, rfl, argCount_of_fitsRow (m := 0xF8#8) (p := 0xA8#8) h (by decide)⟩

theorem unknownB0_BF (word : Word) : Statement (.unknownB0_BF word) := fun h =>
  ⟨_, _, rfl, argCount_of_fitsRow (m := 0xF0#8) (p := 0xB0#8) h (by decide)⟩

theorem unknownC1 (word : Word) : Statement (.unknownC1 word) := fun h =>
  ⟨_, _, rfl, argCount_of_fitsRow (m := 0xFF#8) (p := 0xC1#8) h (by decide)⟩

theorem unknownC2_C3 (word : Word) : Statement (.unknownC2_C3 word) := fun h =>
  ⟨_, _, rfl, argCount_of_fitsRow (m := 0xFE#8) (p := 0xC2#8) h (by decide)⟩

theorem unknownC4_C7 (word : Word) : Statement (.unknownC4_C7 word) := fun h =>
  ⟨_, _, rfl, argCount_of_fitsRow (m := 0xFC#8) (p := 0xC4#8) h (by decide)⟩

theorem unknownC8_CF (word : Word) : Statement (.unknownC8_CF word) := fun h =>
  ⟨_, _, rfl, argCount_of_fitsRow (m := 0xF8#8) (p := 0xC8#8) h (by decide)⟩

theorem unknownD0_DF (word : Word) : Statement (.unknownD0_DF word) := fun h =>
  ⟨_, _, rfl, argCount_of_fitsRow (m := 0xF0#8) (p := 0xD0#8) h (by decide)⟩

theorem unknownE0 (word : Word) : Statement (.unknownE0 word) := fun h =>
  ⟨_, _, rfl, argCount_of_fitsRow (m := 0xFF#8) (p := 0xE0#8) h (by decide)⟩

theorem unknownE7 (word : Word) : Statement (.unknownE7 word) := fun h =>
  ⟨_, _, rfl, argCount_of_fitsRow (m := 0xFF#8) (p := 0xE7#8) h (by decide)⟩

theorem unknownE8_EF (word : Word) : Statement (.unknownE8_EF word) := fun h =>
  ⟨_, _, rfl, argCount_of_fitsRow (m := 0xF8#8) (p := 0xE8#8) h (by decide)⟩

theorem unknownF0_FF (word : Word) : Statement (.unknownF0_FF word) := fun h =>
  ⟨_, _, rfl, argCount_of_fitsRow (m := 0xF0#8) (p := 0xF0#8) h (by decide)⟩

theorem reset : Statement .reset := fun _ => ⟨_, _, rfl, rfl⟩

theorem resetCmdbuf (word : Word) : Statement (.resetCmdbuf word) := fun _ => ⟨_, _, rfl, rfl⟩

theorem ackIrq : Statement .ackIrq := fun _ => ⟨_, _, rfl, rfl⟩

theorem displayEnable (off : Bool) : Statement (.displayEnable off) := fun _ => ⟨_, _, rfl, rfl⟩

theorem dmaDirection (dir : BitVec 2) : Statement (.dmaDirection dir) := fun _ => ⟨_, _, rfl, rfl⟩

theorem displayStart (x : BitVec 10) (y : BitVec 9) : Statement (.displayStart x y) := fun _ => ⟨_, _, rfl, rfl⟩

theorem hRange (x1 x2 : BitVec 12) : Statement (.hRange x1 x2) := fun _ => ⟨_, _, rfl, rfl⟩

theorem vRange (y1 y2 : BitVec 10) : Statement (.vRange y1 y2) := fun _ => ⟨_, _, rfl, rfl⟩

theorem displayMode (arg : BitVec 24) : Statement (.displayMode arg) := fun _ => ⟨_, _, rfl, rfl⟩

theorem texDisableAllow (allow : Bool) : Statement (.texDisableAllow allow) := fun _ => ⟨_, _, rfl, rfl⟩

theorem gp1Unrecognized0A (word : Word) : Statement (.gp1Unrecognized0A word) := fun _ => ⟨_, _, rfl, rfl⟩

theorem gp1Unrecognized0B (word : Word) : Statement (.gp1Unrecognized0B word) := fun _ => ⟨_, _, rfl, rfl⟩

theorem gp1Unrecognized0C (word : Word) : Statement (.gp1Unrecognized0C word) := fun _ => ⟨_, _, rfl, rfl⟩

theorem gp1Unrecognized0D (word : Word) : Statement (.gp1Unrecognized0D word) := fun _ => ⟨_, _, rfl, rfl⟩

theorem gp1Unrecognized0E (word : Word) : Statement (.gp1Unrecognized0E word) := fun _ => ⟨_, _, rfl, rfl⟩

theorem gp1Unrecognized0F (word : Word) : Statement (.gp1Unrecognized0F word) := fun _ => ⟨_, _, rfl, rfl⟩

theorem getInfoNone0 : Statement .getInfoNone0 := fun _ => ⟨_, _, rfl, rfl⟩

theorem getInfoNone1 : Statement .getInfoNone1 := fun _ => ⟨_, _, rfl, rfl⟩

theorem getInfoTexWindow : Statement .getInfoTexWindow := fun _ => ⟨_, _, rfl, rfl⟩

theorem getInfoClipTl : Statement .getInfoClipTl := fun _ => ⟨_, _, rfl, rfl⟩

theorem getInfoClipBr : Statement .getInfoClipBr := fun _ => ⟨_, _, rfl, rfl⟩

theorem getInfoOffset : Statement .getInfoOffset := fun _ => ⟨_, _, rfl, rfl⟩

theorem getInfoNone6 : Statement .getInfoNone6 := fun _ => ⟨_, _, rfl, rfl⟩

theorem getInfoVersion : Statement .getInfoVersion := fun _ => ⟨_, _, rfl, rfl⟩

theorem getInfoZero : Statement .getInfoZero := fun _ => ⟨_, _, rfl, rfl⟩

theorem getInfoNone9 : Statement .getInfoNone9 := fun _ => ⟨_, _, rfl, rfl⟩

theorem getInfoNoneA : Statement .getInfoNoneA := fun _ => ⟨_, _, rfl, rfl⟩

theorem getInfoNoneB : Statement .getInfoNoneB := fun _ => ⟨_, _, rfl, rfl⟩

theorem getInfoNoneC : Statement .getInfoNoneC := fun _ => ⟨_, _, rfl, rfl⟩

theorem getInfoNoneD : Statement .getInfoNoneD := fun _ => ⟨_, _, rfl, rfl⟩

theorem getInfoNoneE : Statement .getInfoNoneE := fun _ => ⟨_, _, rfl, rfl⟩

theorem getInfoNoneF : Statement .getInfoNoneF := fun _ => ⟨_, _, rfl, rfl⟩

theorem gp1Unrecognized20_3F (word : Word) : Statement (.gp1Unrecognized20_3F word) := fun _ => ⟨_, _, rfl, rfl⟩

theorem readData : Statement .readData := fun _ => ⟨_, _, rfl, rfl⟩

theorem readStatus : Statement .readStatus := fun _ => ⟨_, _, rfl, rfl⟩

theorem step (cycles : Nat) : Statement (.step cycles) := fun _ => ⟨_, _, rfl, rfl⟩

theorem backendWrite (x y : Int) (v : Half) (sm cm : Bool) : Statement (.backendWrite x y v sm cm) := fun _ => ⟨_, _, rfl, rfl⟩

end Sys2Proof.Laws.WordCount
end

