-- ==== Sys2Proof/Laws/State.lean ====
section
/-! SUPPORT. One lemma for each field of the state under each named update, all true by `rfl`. -/

namespace Sys2Proof.Machine

/-! ## `setBank` -/

@[simp] theorem State.setBank_bank (s : State) (b : RegisterBank) : (s.setBank b).bank = b := rfl
@[simp] theorem State.setBank_dec (s : State) (b : RegisterBank) : (s.setBank b).dec = s.dec := rfl
@[simp] theorem State.setBank_wr (s : State) (b : RegisterBank) : (s.setBank b).wr = s.wr := rfl
@[simp] theorem State.setBank_rd (s : State) (b : RegisterBank) : (s.setBank b).rd = s.rd := rfl
@[simp] theorem State.setBank_readMode (s : State) (b : RegisterBank) : (s.setBank b).readMode = s.readMode := rfl
@[simp] theorem State.setBank_readLatch (s : State) (b : RegisterBank) : (s.setBank b).readLatch = s.readLatch := rfl
@[simp] theorem State.setBank_timing (s : State) (b : RegisterBank) : (s.setBank b).timing = s.timing := rfl
@[simp] theorem State.setBank_fault (s : State) (b : RegisterBank) : (s.setBank b).fault = s.fault := rfl
@[simp] theorem State.setBank_vram (s : State) (b : RegisterBank) : (s.setBank b).vram = s.vram := rfl
@[simp] theorem State.setBank_emissions (s : State) (b : RegisterBank) : (s.setBank b).emissions = s.emissions := rfl
@[simp] theorem State.setBank_diags (s : State) (b : RegisterBank) : (s.setBank b).diags = s.diags := rfl
@[simp] theorem State.setBank_results (s : State) (b : RegisterBank) : (s.setBank b).results = s.results := rfl
@[simp] theorem State.setBank_pending (s : State) (b : RegisterBank) : (s.setBank b).pending = s.pending := rfl
@[simp] theorem State.setBank_cfg (s : State) (b : RegisterBank) : (s.setBank b).cfg = s.cfg := rfl

/-! ## `setDec` -/

@[simp] theorem State.setDec_bank (s : State) (d : Decoder) : (s.setDec d).bank = s.bank := rfl
@[simp] theorem State.setDec_dec (s : State) (d : Decoder) : (s.setDec d).dec = d := rfl
@[simp] theorem State.setDec_wr (s : State) (d : Decoder) : (s.setDec d).wr = s.wr := rfl
@[simp] theorem State.setDec_rd (s : State) (d : Decoder) : (s.setDec d).rd = s.rd := rfl
@[simp] theorem State.setDec_readMode (s : State) (d : Decoder) : (s.setDec d).readMode = s.readMode := rfl
@[simp] theorem State.setDec_readLatch (s : State) (d : Decoder) : (s.setDec d).readLatch = s.readLatch := rfl
@[simp] theorem State.setDec_timing (s : State) (d : Decoder) : (s.setDec d).timing = s.timing := rfl
@[simp] theorem State.setDec_fault (s : State) (d : Decoder) : (s.setDec d).fault = s.fault := rfl
@[simp] theorem State.setDec_vram (s : State) (d : Decoder) : (s.setDec d).vram = s.vram := rfl
@[simp] theorem State.setDec_emissions (s : State) (d : Decoder) : (s.setDec d).emissions = s.emissions := rfl
@[simp] theorem State.setDec_diags (s : State) (d : Decoder) : (s.setDec d).diags = s.diags := rfl
@[simp] theorem State.setDec_results (s : State) (d : Decoder) : (s.setDec d).results = s.results := rfl
@[simp] theorem State.setDec_pending (s : State) (d : Decoder) : (s.setDec d).pending = s.pending := rfl
@[simp] theorem State.setDec_cfg (s : State) (d : Decoder) : (s.setDec d).cfg = s.cfg := rfl

/-! ## `setWr` -/

@[simp] theorem State.setWr_bank (s : State) (c : Cursor) : (s.setWr c).bank = s.bank := rfl
@[simp] theorem State.setWr_dec (s : State) (c : Cursor) : (s.setWr c).dec = s.dec := rfl
@[simp] theorem State.setWr_wr (s : State) (c : Cursor) : (s.setWr c).wr = c := rfl
@[simp] theorem State.setWr_rd (s : State) (c : Cursor) : (s.setWr c).rd = s.rd := rfl
@[simp] theorem State.setWr_readMode (s : State) (c : Cursor) : (s.setWr c).readMode = s.readMode := rfl
@[simp] theorem State.setWr_readLatch (s : State) (c : Cursor) : (s.setWr c).readLatch = s.readLatch := rfl
@[simp] theorem State.setWr_timing (s : State) (c : Cursor) : (s.setWr c).timing = s.timing := rfl
@[simp] theorem State.setWr_fault (s : State) (c : Cursor) : (s.setWr c).fault = s.fault := rfl
@[simp] theorem State.setWr_vram (s : State) (c : Cursor) : (s.setWr c).vram = s.vram := rfl
@[simp] theorem State.setWr_emissions (s : State) (c : Cursor) : (s.setWr c).emissions = s.emissions := rfl
@[simp] theorem State.setWr_diags (s : State) (c : Cursor) : (s.setWr c).diags = s.diags := rfl
@[simp] theorem State.setWr_results (s : State) (c : Cursor) : (s.setWr c).results = s.results := rfl
@[simp] theorem State.setWr_pending (s : State) (c : Cursor) : (s.setWr c).pending = s.pending := rfl
@[simp] theorem State.setWr_cfg (s : State) (c : Cursor) : (s.setWr c).cfg = s.cfg := rfl

/-! ## `setRd` -/

@[simp] theorem State.setRd_bank (s : State) (c : Cursor) : (s.setRd c).bank = s.bank := rfl
@[simp] theorem State.setRd_dec (s : State) (c : Cursor) : (s.setRd c).dec = s.dec := rfl
@[simp] theorem State.setRd_wr (s : State) (c : Cursor) : (s.setRd c).wr = s.wr := rfl
@[simp] theorem State.setRd_rd (s : State) (c : Cursor) : (s.setRd c).rd = c := rfl
@[simp] theorem State.setRd_readMode (s : State) (c : Cursor) : (s.setRd c).readMode = s.readMode := rfl
@[simp] theorem State.setRd_readLatch (s : State) (c : Cursor) : (s.setRd c).readLatch = s.readLatch := rfl
@[simp] theorem State.setRd_timing (s : State) (c : Cursor) : (s.setRd c).timing = s.timing := rfl
@[simp] theorem State.setRd_fault (s : State) (c : Cursor) : (s.setRd c).fault = s.fault := rfl
@[simp] theorem State.setRd_vram (s : State) (c : Cursor) : (s.setRd c).vram = s.vram := rfl
@[simp] theorem State.setRd_emissions (s : State) (c : Cursor) : (s.setRd c).emissions = s.emissions := rfl
@[simp] theorem State.setRd_diags (s : State) (c : Cursor) : (s.setRd c).diags = s.diags := rfl
@[simp] theorem State.setRd_results (s : State) (c : Cursor) : (s.setRd c).results = s.results := rfl
@[simp] theorem State.setRd_pending (s : State) (c : Cursor) : (s.setRd c).pending = s.pending := rfl
@[simp] theorem State.setRd_cfg (s : State) (c : Cursor) : (s.setRd c).cfg = s.cfg := rfl

/-! ## `setReadMode` -/

@[simp] theorem State.setReadMode_bank (s : State) (m : ReadMode) : (s.setReadMode m).bank = s.bank := rfl
@[simp] theorem State.setReadMode_dec (s : State) (m : ReadMode) : (s.setReadMode m).dec = s.dec := rfl
@[simp] theorem State.setReadMode_wr (s : State) (m : ReadMode) : (s.setReadMode m).wr = s.wr := rfl
@[simp] theorem State.setReadMode_rd (s : State) (m : ReadMode) : (s.setReadMode m).rd = s.rd := rfl
@[simp] theorem State.setReadMode_readMode (s : State) (m : ReadMode) : (s.setReadMode m).readMode = m := rfl
@[simp] theorem State.setReadMode_readLatch (s : State) (m : ReadMode) : (s.setReadMode m).readLatch = s.readLatch := rfl
@[simp] theorem State.setReadMode_timing (s : State) (m : ReadMode) : (s.setReadMode m).timing = s.timing := rfl
@[simp] theorem State.setReadMode_fault (s : State) (m : ReadMode) : (s.setReadMode m).fault = s.fault := rfl
@[simp] theorem State.setReadMode_vram (s : State) (m : ReadMode) : (s.setReadMode m).vram = s.vram := rfl
@[simp] theorem State.setReadMode_emissions (s : State) (m : ReadMode) : (s.setReadMode m).emissions = s.emissions := rfl
@[simp] theorem State.setReadMode_diags (s : State) (m : ReadMode) : (s.setReadMode m).diags = s.diags := rfl
@[simp] theorem State.setReadMode_results (s : State) (m : ReadMode) : (s.setReadMode m).results = s.results := rfl
@[simp] theorem State.setReadMode_pending (s : State) (m : ReadMode) : (s.setReadMode m).pending = s.pending := rfl
@[simp] theorem State.setReadMode_cfg (s : State) (m : ReadMode) : (s.setReadMode m).cfg = s.cfg := rfl

/-! ## `setReadLatch` -/

@[simp] theorem State.setReadLatch_bank (s : State) (w : Word) : (s.setReadLatch w).bank = s.bank := rfl
@[simp] theorem State.setReadLatch_dec (s : State) (w : Word) : (s.setReadLatch w).dec = s.dec := rfl
@[simp] theorem State.setReadLatch_wr (s : State) (w : Word) : (s.setReadLatch w).wr = s.wr := rfl
@[simp] theorem State.setReadLatch_rd (s : State) (w : Word) : (s.setReadLatch w).rd = s.rd := rfl
@[simp] theorem State.setReadLatch_readMode (s : State) (w : Word) : (s.setReadLatch w).readMode = s.readMode := rfl
@[simp] theorem State.setReadLatch_readLatch (s : State) (w : Word) : (s.setReadLatch w).readLatch = w := rfl
@[simp] theorem State.setReadLatch_timing (s : State) (w : Word) : (s.setReadLatch w).timing = s.timing := rfl
@[simp] theorem State.setReadLatch_fault (s : State) (w : Word) : (s.setReadLatch w).fault = s.fault := rfl
@[simp] theorem State.setReadLatch_vram (s : State) (w : Word) : (s.setReadLatch w).vram = s.vram := rfl
@[simp] theorem State.setReadLatch_emissions (s : State) (w : Word) : (s.setReadLatch w).emissions = s.emissions := rfl
@[simp] theorem State.setReadLatch_diags (s : State) (w : Word) : (s.setReadLatch w).diags = s.diags := rfl
@[simp] theorem State.setReadLatch_results (s : State) (w : Word) : (s.setReadLatch w).results = s.results := rfl
@[simp] theorem State.setReadLatch_pending (s : State) (w : Word) : (s.setReadLatch w).pending = s.pending := rfl
@[simp] theorem State.setReadLatch_cfg (s : State) (w : Word) : (s.setReadLatch w).cfg = s.cfg := rfl

/-! ## `setTiming` -/

@[simp] theorem State.setTiming_bank (s : State) (t : Timing) : (s.setTiming t).bank = s.bank := rfl
@[simp] theorem State.setTiming_dec (s : State) (t : Timing) : (s.setTiming t).dec = s.dec := rfl
@[simp] theorem State.setTiming_wr (s : State) (t : Timing) : (s.setTiming t).wr = s.wr := rfl
@[simp] theorem State.setTiming_rd (s : State) (t : Timing) : (s.setTiming t).rd = s.rd := rfl
@[simp] theorem State.setTiming_readMode (s : State) (t : Timing) : (s.setTiming t).readMode = s.readMode := rfl
@[simp] theorem State.setTiming_readLatch (s : State) (t : Timing) : (s.setTiming t).readLatch = s.readLatch := rfl
@[simp] theorem State.setTiming_timing (s : State) (t : Timing) : (s.setTiming t).timing = t := rfl
@[simp] theorem State.setTiming_fault (s : State) (t : Timing) : (s.setTiming t).fault = s.fault := rfl
@[simp] theorem State.setTiming_vram (s : State) (t : Timing) : (s.setTiming t).vram = s.vram := rfl
@[simp] theorem State.setTiming_emissions (s : State) (t : Timing) : (s.setTiming t).emissions = s.emissions := rfl
@[simp] theorem State.setTiming_diags (s : State) (t : Timing) : (s.setTiming t).diags = s.diags := rfl
@[simp] theorem State.setTiming_results (s : State) (t : Timing) : (s.setTiming t).results = s.results := rfl
@[simp] theorem State.setTiming_pending (s : State) (t : Timing) : (s.setTiming t).pending = s.pending := rfl
@[simp] theorem State.setTiming_cfg (s : State) (t : Timing) : (s.setTiming t).cfg = s.cfg := rfl

/-! ## `setVram` -/

@[simp] theorem State.setVram_bank (s : State) (m : Memory) : (s.setVram m).bank = s.bank := rfl
@[simp] theorem State.setVram_dec (s : State) (m : Memory) : (s.setVram m).dec = s.dec := rfl
@[simp] theorem State.setVram_wr (s : State) (m : Memory) : (s.setVram m).wr = s.wr := rfl
@[simp] theorem State.setVram_rd (s : State) (m : Memory) : (s.setVram m).rd = s.rd := rfl
@[simp] theorem State.setVram_readMode (s : State) (m : Memory) : (s.setVram m).readMode = s.readMode := rfl
@[simp] theorem State.setVram_readLatch (s : State) (m : Memory) : (s.setVram m).readLatch = s.readLatch := rfl
@[simp] theorem State.setVram_timing (s : State) (m : Memory) : (s.setVram m).timing = s.timing := rfl
@[simp] theorem State.setVram_fault (s : State) (m : Memory) : (s.setVram m).fault = s.fault := rfl
@[simp] theorem State.setVram_vram (s : State) (m : Memory) : (s.setVram m).vram = m := rfl
@[simp] theorem State.setVram_emissions (s : State) (m : Memory) : (s.setVram m).emissions = s.emissions := rfl
@[simp] theorem State.setVram_diags (s : State) (m : Memory) : (s.setVram m).diags = s.diags := rfl
@[simp] theorem State.setVram_results (s : State) (m : Memory) : (s.setVram m).results = s.results := rfl
@[simp] theorem State.setVram_pending (s : State) (m : Memory) : (s.setVram m).pending = s.pending := rfl
@[simp] theorem State.setVram_cfg (s : State) (m : Memory) : (s.setVram m).cfg = s.cfg := rfl

/-! ## `setPending` -/

@[simp] theorem State.setPending_bank (s : State) (ts : List Transaction) : (s.setPending ts).bank = s.bank := rfl
@[simp] theorem State.setPending_dec (s : State) (ts : List Transaction) : (s.setPending ts).dec = s.dec := rfl
@[simp] theorem State.setPending_wr (s : State) (ts : List Transaction) : (s.setPending ts).wr = s.wr := rfl
@[simp] theorem State.setPending_rd (s : State) (ts : List Transaction) : (s.setPending ts).rd = s.rd := rfl
@[simp] theorem State.setPending_readMode (s : State) (ts : List Transaction) : (s.setPending ts).readMode = s.readMode := rfl
@[simp] theorem State.setPending_readLatch (s : State) (ts : List Transaction) : (s.setPending ts).readLatch = s.readLatch := rfl
@[simp] theorem State.setPending_timing (s : State) (ts : List Transaction) : (s.setPending ts).timing = s.timing := rfl
@[simp] theorem State.setPending_fault (s : State) (ts : List Transaction) : (s.setPending ts).fault = s.fault := rfl
@[simp] theorem State.setPending_vram (s : State) (ts : List Transaction) : (s.setPending ts).vram = s.vram := rfl
@[simp] theorem State.setPending_emissions (s : State) (ts : List Transaction) : (s.setPending ts).emissions = s.emissions := rfl
@[simp] theorem State.setPending_diags (s : State) (ts : List Transaction) : (s.setPending ts).diags = s.diags := rfl
@[simp] theorem State.setPending_results (s : State) (ts : List Transaction) : (s.setPending ts).results = s.results := rfl
@[simp] theorem State.setPending_pending (s : State) (ts : List Transaction) : (s.setPending ts).pending = ts := rfl
@[simp] theorem State.setPending_cfg (s : State) (ts : List Transaction) : (s.setPending ts).cfg = s.cfg := rfl

/-! ## `emit` -/

@[simp] theorem State.emit_bank (s : State) (es : List Emission) : (s.emit es).bank = s.bank := rfl
@[simp] theorem State.emit_dec (s : State) (es : List Emission) : (s.emit es).dec = s.dec := rfl
@[simp] theorem State.emit_wr (s : State) (es : List Emission) : (s.emit es).wr = s.wr := rfl
@[simp] theorem State.emit_rd (s : State) (es : List Emission) : (s.emit es).rd = s.rd := rfl
@[simp] theorem State.emit_readMode (s : State) (es : List Emission) : (s.emit es).readMode = s.readMode := rfl
@[simp] theorem State.emit_readLatch (s : State) (es : List Emission) : (s.emit es).readLatch = s.readLatch := rfl
@[simp] theorem State.emit_timing (s : State) (es : List Emission) : (s.emit es).timing = s.timing := rfl
@[simp] theorem State.emit_fault (s : State) (es : List Emission) : (s.emit es).fault = s.fault := rfl
@[simp] theorem State.emit_vram (s : State) (es : List Emission) : (s.emit es).vram = s.vram := rfl
@[simp] theorem State.emit_emissions (s : State) (es : List Emission) : (s.emit es).emissions = s.emissions ++ es := rfl
@[simp] theorem State.emit_diags (s : State) (es : List Emission) : (s.emit es).diags = s.diags := rfl
@[simp] theorem State.emit_results (s : State) (es : List Emission) : (s.emit es).results = s.results := rfl
@[simp] theorem State.emit_pending (s : State) (es : List Emission) : (s.emit es).pending = s.pending := rfl
@[simp] theorem State.emit_cfg (s : State) (es : List Emission) : (s.emit es).cfg = s.cfg := rfl

/-! ## `diag` -/

@[simp] theorem State.diag_bank (s : State) (k : DiagKind) (w : Word) : (s.diag k w).bank = s.bank := rfl
@[simp] theorem State.diag_dec (s : State) (k : DiagKind) (w : Word) : (s.diag k w).dec = s.dec := rfl
@[simp] theorem State.diag_wr (s : State) (k : DiagKind) (w : Word) : (s.diag k w).wr = s.wr := rfl
@[simp] theorem State.diag_rd (s : State) (k : DiagKind) (w : Word) : (s.diag k w).rd = s.rd := rfl
@[simp] theorem State.diag_readMode (s : State) (k : DiagKind) (w : Word) : (s.diag k w).readMode = s.readMode := rfl
@[simp] theorem State.diag_readLatch (s : State) (k : DiagKind) (w : Word) : (s.diag k w).readLatch = s.readLatch := rfl
@[simp] theorem State.diag_timing (s : State) (k : DiagKind) (w : Word) : (s.diag k w).timing = s.timing := rfl
@[simp] theorem State.diag_fault (s : State) (k : DiagKind) (w : Word) : (s.diag k w).fault = s.fault := rfl
@[simp] theorem State.diag_vram (s : State) (k : DiagKind) (w : Word) : (s.diag k w).vram = s.vram := rfl
@[simp] theorem State.diag_emissions (s : State) (k : DiagKind) (w : Word) : (s.diag k w).emissions = s.emissions := rfl
@[simp] theorem State.diag_diags (s : State) (k : DiagKind) (w : Word) : (s.diag k w).diags = s.diags ++ [.diag k w] := rfl
@[simp] theorem State.diag_results (s : State) (k : DiagKind) (w : Word) : (s.diag k w).results = s.results := rfl
@[simp] theorem State.diag_pending (s : State) (k : DiagKind) (w : Word) : (s.diag k w).pending = s.pending := rfl
@[simp] theorem State.diag_cfg (s : State) (k : DiagKind) (w : Word) : (s.diag k w).cfg = s.cfg := rfl

/-! ## `answer` -/

@[simp] theorem State.answer_bank (s : State) (r : BusResult) : (s.answer r).bank = s.bank := rfl
@[simp] theorem State.answer_dec (s : State) (r : BusResult) : (s.answer r).dec = s.dec := rfl
@[simp] theorem State.answer_wr (s : State) (r : BusResult) : (s.answer r).wr = s.wr := rfl
@[simp] theorem State.answer_rd (s : State) (r : BusResult) : (s.answer r).rd = s.rd := rfl
@[simp] theorem State.answer_readMode (s : State) (r : BusResult) : (s.answer r).readMode = s.readMode := rfl
@[simp] theorem State.answer_readLatch (s : State) (r : BusResult) : (s.answer r).readLatch = s.readLatch := rfl
@[simp] theorem State.answer_timing (s : State) (r : BusResult) : (s.answer r).timing = s.timing := rfl
@[simp] theorem State.answer_fault (s : State) (r : BusResult) : (s.answer r).fault = s.fault := rfl
@[simp] theorem State.answer_vram (s : State) (r : BusResult) : (s.answer r).vram = s.vram := rfl
@[simp] theorem State.answer_emissions (s : State) (r : BusResult) : (s.answer r).emissions = s.emissions := rfl
@[simp] theorem State.answer_diags (s : State) (r : BusResult) : (s.answer r).diags = s.diags := rfl
@[simp] theorem State.answer_results (s : State) (r : BusResult) : (s.answer r).results = s.results ++ [r] := rfl
@[simp] theorem State.answer_pending (s : State) (r : BusResult) : (s.answer r).pending = s.pending := rfl
@[simp] theorem State.answer_cfg (s : State) (r : BusResult) : (s.answer r).cfg = s.cfg := rfl

/-! ## `raiseFatal` -/

@[simp] theorem State.raiseFatal_bank (s : State) (w : Word) : (s.raiseFatal w).bank = s.bank := rfl
@[simp] theorem State.raiseFatal_dec (s : State) (w : Word) : (s.raiseFatal w).dec = s.dec := rfl
@[simp] theorem State.raiseFatal_wr (s : State) (w : Word) : (s.raiseFatal w).wr = s.wr := rfl
@[simp] theorem State.raiseFatal_rd (s : State) (w : Word) : (s.raiseFatal w).rd = s.rd := rfl
@[simp] theorem State.raiseFatal_readMode (s : State) (w : Word) : (s.raiseFatal w).readMode = s.readMode := rfl
@[simp] theorem State.raiseFatal_readLatch (s : State) (w : Word) : (s.raiseFatal w).readLatch = s.readLatch := rfl
@[simp] theorem State.raiseFatal_timing (s : State) (w : Word) : (s.raiseFatal w).timing = s.timing := rfl
@[simp] theorem State.raiseFatal_fault (s : State) (w : Word) : (s.raiseFatal w).fault = true := rfl
@[simp] theorem State.raiseFatal_vram (s : State) (w : Word) : (s.raiseFatal w).vram = s.vram := rfl
@[simp] theorem State.raiseFatal_emissions (s : State) (w : Word) : (s.raiseFatal w).emissions = s.emissions := rfl
@[simp] theorem State.raiseFatal_diags (s : State) (w : Word) : (s.raiseFatal w).diags = s.diags ++ [.fatal w] := rfl
@[simp] theorem State.raiseFatal_results (s : State) (w : Word) : (s.raiseFatal w).results = s.results := rfl
@[simp] theorem State.raiseFatal_pending (s : State) (w : Word) : (s.raiseFatal w).pending = s.pending := rfl
@[simp] theorem State.raiseFatal_cfg (s : State) (w : Word) : (s.raiseFatal w).cfg = s.cfg := rfl

/-! ## `dispatched` -/

@[simp] theorem State.dispatched_bank (s : State) (st : DecState) : (s.dispatched st).bank = s.bank := rfl
@[simp] theorem State.dispatched_dec (s : State) (st : DecState) : (s.dispatched st).dec = s.dec.cleared st := rfl
@[simp] theorem State.dispatched_wr (s : State) (st : DecState) : (s.dispatched st).wr = s.wr := rfl
@[simp] theorem State.dispatched_rd (s : State) (st : DecState) : (s.dispatched st).rd = s.rd := rfl
@[simp] theorem State.dispatched_readMode (s : State) (st : DecState) : (s.dispatched st).readMode = s.readMode := rfl
@[simp] theorem State.dispatched_readLatch (s : State) (st : DecState) : (s.dispatched st).readLatch = s.readLatch := rfl
@[simp] theorem State.dispatched_timing (s : State) (st : DecState) : (s.dispatched st).timing = s.timing := rfl
@[simp] theorem State.dispatched_fault (s : State) (st : DecState) : (s.dispatched st).fault = s.fault := rfl
@[simp] theorem State.dispatched_vram (s : State) (st : DecState) : (s.dispatched st).vram = s.vram := rfl
@[simp] theorem State.dispatched_emissions (s : State) (st : DecState) : (s.dispatched st).emissions = s.emissions := rfl
@[simp] theorem State.dispatched_diags (s : State) (st : DecState) : (s.dispatched st).diags = s.diags := rfl
@[simp] theorem State.dispatched_results (s : State) (st : DecState) : (s.dispatched st).results = s.results := rfl
@[simp] theorem State.dispatched_pending (s : State) (st : DecState) : (s.dispatched st).pending = s.pending := rfl
@[simp] theorem State.dispatched_cfg (s : State) (st : DecState) : (s.dispatched st).cfg = s.cfg := rfl

/-! ## The decoder after a clear -/

@[simp] theorem Decoder.cleared_state (d : Decoder) (st : DecState) : (d.cleared st).state = st := rfl
@[simp] theorem Decoder.cleared_kind (d : Decoder) (st : DecState) : (d.cleared st).kind = d.kind := rfl
@[simp] theorem Decoder.cleared_cmdWord (d : Decoder) (st : DecState) : (d.cleared st).cmdWord = 0#32 := rfl
@[simp] theorem Decoder.cleared_argBuf (d : Decoder) (st : DecState) : (d.cleared st).argBuf = Vector.replicate 16 0#32 := rfl
@[simp] theorem Decoder.cleared_argLen (d : Decoder) (st : DecState) : (d.cleared st).argLen = 0 := rfl
@[simp] theorem Decoder.cleared_argExpected (d : Decoder) (st : DecState) : (d.cleared st).argExpected = 0 := rfl

/-! ## The fault gate -/

/-- A live transaction has its next state. -/
theorem State.commit_live {s t : State} (h : s.fault = false) : s.commit t = .next t := by simp [State.commit, h]

/-- After a fatal condition every transaction is refused. -/
theorem State.commit_faulted {s t : State} (h : s.fault = true) : s.commit t = .refused .afterFatal := by
  simp [State.commit, h]

/-- Everything `commit` can do: a next state only when live, and then that state. -/
theorem State.commit_eq_next {s t u : State} : s.commit t = .next u ↔ s.fault = false ∧ u = t := by
  cases h : s.fault <;> simp [State.commit, h, eq_comm]

/-- `commit` never faults. -/
theorem State.commit_ne_fault {s t : State} {f : Fault} : s.commit t ≠ .fault f := by
  cases h : s.fault <;> simp [State.commit, h]

end Sys2Proof.Machine
end

