-- ==== Sys2Proof/Laws/Transfer.lean ====
section
/-! SUPPORT. Cursors by their place in raster order, and one pixel or one word of a transfer (43_vram_copy R246,
45_bus_reads R323). -/

namespace Sys2Proof.Machine

/-! ## Cursors -/

@[simp] theorem Cursor.atPlace_x0 (c : Cursor) (k : Nat) : (c.atPlace k).x0 = c.x0 := rfl
@[simp] theorem Cursor.atPlace_y0 (c : Cursor) (k : Nat) : (c.atPlace k).y0 = c.y0 := rfl
@[simp] theorem Cursor.atPlace_w (c : Cursor) (k : Nat) : (c.atPlace k).w = c.w := rfl
@[simp] theorem Cursor.atPlace_h (c : Cursor) (k : Nat) : (c.atPlace k).h = c.h := rfl

/-- The place of a cursor is inside its rectangle. -/
theorem Cursor.place_lt {c : Cursor} (h : c.wf) : c.place < c.w * c.h := by
  obtain ⟨_, _, _, _, hx, hy⟩ := h
  have : (c.cy + 1) * c.w ≤ c.h * c.w := Nat.mul_le_mul_right _ hy
  simp only [Cursor.place, Nat.mul_comm c.w]
  rw [Nat.add_mul] at this
  omega

theorem Cursor.place_mod {c : Cursor} (h : c.wf) : c.place % c.w = c.cx := by
  obtain ⟨_, _, _, _, hx, hy⟩ := h
  rw [Cursor.place, Nat.mul_comm, Nat.mul_add_mod, Nat.mod_eq_of_lt hx]

theorem Cursor.place_div {c : Cursor} (h : c.wf) : c.place / c.w = c.cy := by
  obtain ⟨_, _, _, _, hx, hy⟩ := h
  rw [Cursor.place, Nat.mul_comm, Nat.mul_add_div (by omega), Nat.div_eq_of_lt hx, Nat.add_zero]

/-- The cell under a cursor is the cell at its place. -/
theorem Cursor.cell_eq {c : Cursor} (h : c.wf) : (c.cellX, c.cellY) = rasterCell c.x0 c.y0 c.w c.place := by
  simp only [rasterCell, Cursor.place_mod h, Cursor.place_div h]
  rfl

theorem Cursor.atPlace_place {c : Cursor} (h : c.wf) : c.atPlace c.place = c := by
  simp only [Cursor.atPlace, Cursor.place_mod h, Cursor.place_div h]

theorem Cursor.place_atPlace (c : Cursor) (k : Nat) : (c.atPlace k).place = k := by
  simp only [Cursor.place, Cursor.atPlace]
  rw [Nat.mul_comm]
  exact Nat.div_add_mod k c.w

theorem Cursor.atPlace_atPlace (c : Cursor) (j k : Nat) : (c.atPlace j).atPlace k = c.atPlace k := rfl

theorem Cursor.wf_atPlace {c : Cursor} (h : c.wf) {k : Nat} (hk : k < c.w * c.h) : (c.atPlace k).wf := by
  obtain ⟨h1, h2, h3, h4, hx, hy⟩ := h
  exact ⟨h1, h2, h3, h4, Nat.mod_lt _ (by omega), Nat.div_lt_of_lt_mul hk⟩

/-- The advance of a cursor: to the next place, or past the last one to the first (43_vram_copy R246). -/
theorem Cursor.advance_eq {c : Cursor} (h : c.wf) :
    c.advance = if c.place + 1 < c.w * c.h then (c.atPlace (c.place + 1), false) else (c.atPlace 0, true) := by
  have hlt := Cursor.place_lt h
  obtain ⟨h1, h2, h3, h4, hx, hy⟩ := h
  obtain ⟨x0, y0, w, h, cx, cy⟩ := c
  simp only [Cursor.place, Cursor.atPlace, Cursor.advance, Nat.zero_mod, Nat.zero_div] at *
  by_cases hw : cx + 1 = w
  · have hp : cy * w + cx + 1 = (cy + 1) * w := by rw [Nat.add_mul, Nat.one_mul]; omega
    rw [if_pos hw, hp, Nat.mul_comm w h]
    by_cases hh : cy + 1 = h
    · rw [if_pos hh, hh, if_neg (by omega)]
    · have hlt' : (cy + 1) * w < h * w := Nat.mul_lt_mul_of_pos_right (by omega) (by omega)
      rw [if_neg hh, if_pos hlt', Nat.mul_mod_left, Nat.mul_div_cancel _ (by omega)]
  · have hlt' : cy * w + cx + 1 < w * h := by
      have := Nat.mul_le_mul_right w (Nat.succ_le_of_lt hy)
      rw [Nat.succ_mul, Nat.mul_comm h] at this
      omega
    rw [if_neg hw, if_pos hlt', Nat.add_assoc, Nat.mul_comm, Nat.mul_add_mod, Nat.mul_add_div (by omega),
      Nat.mod_eq_of_lt (by omega), Nat.div_eq_of_lt (by omega)]
    rfl

/-! ## Writing -/

/-- One pixel of an upload, from a cursor inside its rectangle (43_vram_copy R246, R247). -/
theorem writePixel_eq (v : Half) {s : State} (h : s.wr.wf) :
    writePixel v s = { s with
      vram := s.vram.fbWriteMasked (rasterCell s.wr.x0 s.wr.y0 s.wr.w s.wr.place).1
        (rasterCell s.wr.x0 s.wr.y0 s.wr.w s.wr.place).2 v s.bank.setMask s.bank.checkMask
      wr := s.wr.atPlace (if s.wr.place + 1 < s.wr.w * s.wr.h then s.wr.place + 1 else 0)
      dec := { s.dec with
        state := if s.wr.place + 1 < s.wr.w * s.wr.h then s.dec.state else .idle } } := by
  unfold writePixel
  rw [Cursor.advance_eq h, ← Cursor.cell_eq h]
  by_cases hlt : s.wr.place + 1 < s.wr.w * s.wr.h
  · simp only [hlt, if_true]
    rfl
  · simp only [hlt, if_false, if_true]
    rfl

/-! ## What a pixel or a data word leaves alone, in any state -/

theorem writePixel_frame (v : Half) (s : State) :
    ∃ m c d, writePixel v s = { s with vram := m, wr := c, dec := d } ∧ (d = s.dec ∨ d = { s.dec with state := .idle })
      ∧ (s.vram.wf = true → m.wf = true)
      ∧ (∀ x y, s.vram.wf = true → s.bank.checkMask = true → (s.vram.fbRead x y).getLsbD 15 = true →
          m.fbRead x y = s.vram.fbRead x y) := by
  unfold writePixel
  obtain ⟨c, last⟩ := s.wr.advance
  refine ⟨s.vram.fbWriteMasked s.wr.cellX s.wr.cellY v s.bank.setMask s.bank.checkMask, c,
    if last then { s.dec with state := .idle } else s.dec, ?_, ?_, ?_, ?_⟩
  · cases last <;> rfl
  · cases last
    · exact .inl rfl
    · exact .inr rfl
  · exact fun h => Memory.wf_fbWriteMasked h _ _ _ _ _
  · intro x y h hc hp
    rw [hc]
    exact Memory.fbRead_fbWriteMasked_protected h _ _ _ _ _ _ hp

theorem copyDataWord_frame (w : Word) (s : State) :
    ∃ m c d, copyDataWord w s = { s with vram := m, wr := c, dec := d }
      ∧ (d = s.dec ∨ d = { s.dec with state := .idle })
      ∧ (s.vram.wf = true → m.wf = true)
      ∧ (∀ x y, s.vram.wf = true → s.bank.checkMask = true → (s.vram.fbRead x y).getLsbD 15 = true →
          m.fbRead x y = s.vram.fbRead x y) := by
  obtain ⟨m, c, d, he, hd, hm, hp⟩ := writePixel_frame (w.extractLsb' 0 16) s
  unfold copyDataWord
  simp only [he]
  split
  · obtain ⟨m', c', d', he', hd', hm', hp'⟩ :=
      writePixel_frame (w.extractLsb' 16 16) { s with vram := m, wr := c, dec := d }
    refine ⟨m', c', d', he', ?_, fun h => hm' (hm h), ?_⟩
    · rcases hd with rfl | rfl <;> rcases hd' with rfl | rfl <;> first | exact .inl rfl | exact .inr rfl
    · intro x y h hc hmask
      have h1 := hp x y h hc hmask
      rw [← h1]
      refine hp' x y (hm h) hc ?_
      show (m.fbRead x y).getLsbD 15 = true
      rw [h1]
      exact hmask
  · exact ⟨m, c, d, rfl, hd, hm, hp⟩

/-! ## Reading -/

/-- One cell of a read-back, from a cursor inside its rectangle (45_bus_reads R323). -/
theorem readPixel_eq {s : State} (h : s.rd.wf) :
    readPixel s = (s.vram.fbRead (rasterCell s.rd.x0 s.rd.y0 s.rd.w s.rd.place).1
        (rasterCell s.rd.x0 s.rd.y0 s.rd.w s.rd.place).2,
      { s with
        rd := s.rd.atPlace (if s.rd.place + 1 < s.rd.w * s.rd.h then s.rd.place + 1 else 0)
        readMode := if s.rd.place + 1 < s.rd.w * s.rd.h then s.readMode else .normal }) := by
  unfold readPixel
  rw [Cursor.advance_eq h, ← Cursor.cell_eq h]
  by_cases hlt : s.rd.place + 1 < s.rd.w * s.rd.h
  · simp only [hlt, if_true]
    rfl
  · simp only [hlt, if_false, if_true]
    rfl

theorem readPixel_frame (s : State) :
    ∃ v c m, readPixel s = (v, { s with rd := c, readMode := m }) := by
  unfold readPixel
  obtain ⟨c, last⟩ := s.rd.advance
  exact ⟨_, c, if last then .normal else s.readMode, by cases last <;> rfl⟩

/-- A data-port read changes the read registers, the read mode and the latch only. -/
theorem readDataPort_frame (s : State) :
    ∃ w c m l, readDataPort s = (w, { s with rd := c, readMode := m, readLatch := l }) := by
  unfold readDataPort
  split
  · exact ⟨_, _, _, _, rfl⟩
  · exact ⟨_, _, _, _, rfl⟩
  · obtain ⟨v, c, m, he⟩ := readPixel_frame s
    simp only [transferRead, he]
    split
    · obtain ⟨v', c', m', he'⟩ := readPixel_frame { s with rd := c, readMode := m }
      simp only [he']
      exact ⟨_, _, _, _, rfl⟩
    · exact ⟨_, _, _, _, rfl⟩

end Sys2Proof.Machine
end

