-- ==== Sys2Proof/Laws/Step.lean ====
section
/-! SUPPORT. What a step does with its transaction, case by case, and what each class of transaction can change. -/

namespace Sys2Proof.Machine

/-! ## One step, by its transaction -/

theorem step_nil {s : State} (h : s.pending = []) : step s = .next s := by
  unfold step
  rw [h]

theorem step_cons {s : State} {t : Transaction} {rest : List Transaction} (h : s.pending = t :: rest) :
    step s =
      match accept t (s.setPending rest) with
      | .run i s' => exec i s'
      | .hold s' => .next s'
      | .fault f => .fault f
      | .refuse r => .refused r := by
  cases s
  cases h
  rfl

theorem step_fault {s : State} {t : Transaction} {rest : List Transaction} (h : s.pending = t :: rest)
    (hf : s.fault = true) : step s = .refused .afterFatal := by
  rw [step_cons h]
  simp [accept, hf]

theorem step_control {s : State} {w : Word} {rest : List Transaction} (h : s.pending = .write 4 .word w :: rest)
    (hf : s.fault = false) : step s = exec (decodeGp1 w) (s.setPending rest) := by
  rw [step_cons h]
  simp [accept, hf]

theorem step_readData {s : State} {rest : List Transaction} (h : s.pending = .read 0 .word :: rest)
    (hf : s.fault = false) : step s = exec .readData (s.setPending rest) := by
  rw [step_cons h]
  simp [accept, hf]

theorem step_readStatus {s : State} {rest : List Transaction} (h : s.pending = .read 4 .word :: rest)
    (hf : s.fault = false) : step s = exec .readStatus (s.setPending rest) := by
  rw [step_cons h]
  simp [accept, hf]

theorem step_elapse {s : State} {n : Nat} {rest : List Transaction} (h : s.pending = .elapse n :: rest)
    (hf : s.fault = false) : step s = exec (.step n) (s.setPending rest) := by
  rw [step_cons h]
  simp [accept, hf]

theorem step_backend {s : State} {x y : Int} {v : Half} {sm cm : Bool} {rest : List Transaction}
    (h : s.pending = .backend x y v sm cm :: rest) (hf : s.fault = false) :
    step s = exec (.backendWrite x y v sm cm) (s.setPending rest) := by
  rw [step_cons h]
  simp [accept, hf]

/-- A draw-port write goes to the decoder's state machine. -/
theorem step_draw {s : State} {w : Word} {rest : List Transaction} (h : s.pending = .write 0 .word w :: rest)
    (hf : s.fault = false) :
    step s =
      match acceptDraw w (s.setPending rest) with
      | .run i s' => exec i s'
      | .hold s' => .next s'
      | .fault f => .fault f
      | .refuse r => .refused r := by
  rw [step_cons h]
  simp only [accept, State.setPending_fault, hf]
  rfl

theorem step_immediate {s : State} {w : Word} {rest : List Transaction} (h : s.pending = .write 0 .word w :: rest)
    (hf : s.fault = false) (hi : s.dec.state = .idle) (hk : kindOf (opOf w) = none) :
    step s = exec (decodeImmediate w) (s.setPending rest) := by
  rw [step_draw h hf]
  simp [acceptDraw, hi, hk]

theorem step_start {s : State} {w : Word} {rest : List Transaction} {k : DecKind}
    (h : s.pending = .write 0 .word w :: rest) (hf : s.fault = false) (hi : s.dec.state = .idle)
    (hk : kindOf (opOf w) = some k) : step s = .next (startCommand k w (s.setPending rest)) := by
  rw [step_draw h hf]
  simp [acceptDraw, hi, hk]

theorem step_data {s : State} {w : Word} {rest : List Transaction} (h : s.pending = .write 0 .word w :: rest)
    (hf : s.fault = false) (hi : s.dec.state = .transfer) :
    step s = .next (copyDataWord w (s.setPending rest)) := by
  rw [step_draw h hf]
  simp [acceptDraw, hi]

theorem step_argument {s : State} {w : Word} {rest : List Transaction} (h : s.pending = .write 0 .word w :: rest)
    (hf : s.fault = false) (hi : s.dec.state = .accum)
    (hn : (appendArgument s.cfg w s.dec).argLen ≠ (appendArgument s.cfg w s.dec).argExpected) :
    step s = .next ((s.setPending rest).setDec (appendArgument s.cfg w s.dec)) := by
  rw [step_draw h hf]
  simp [acceptDraw, hi, hn]

/-- The word that completes a command runs the command (40_command_decoder R134, R136). -/
theorem step_dispatch {s : State} {w : Word} {rest : List Transaction} {i : Instr}
    (h : s.pending = .write 0 .word w :: rest) (hf : s.fault = false) (hi : s.dec.state = .accum)
    (hn : (appendArgument s.cfg w s.dec).argLen = (appendArgument s.cfg w s.dec).argExpected)
    (hk : kindOf (opOf s.dec.cmdWord) = some s.dec.kind)
    (hd : decodeGp0 s.dec.cmdWord (appendArgument s.cfg w s.dec).arguments = .ok i) :
    step s = exec i ((s.setPending rest).setDec (appendArgument s.cfg w s.dec)) := by
  have hc : (appendArgument s.cfg w s.dec).cmdWord = s.dec.cmdWord := rfl
  have hk' : (appendArgument s.cfg w s.dec).kind = s.dec.kind := rfl
  rw [step_draw h hf]
  simp [acceptDraw, hi, hn, dispatch, hc, hk', hk, hd]

/-! ## Arguments held -/

/-- The argument words after one more has been stored. -/
theorem Decoder.arguments_append (cfg : Config.Params) (w : Word) {d : Decoder} (h : d.argLen < 16) :
    (appendArgument cfg w d).arguments = d.arguments ++ [w] := by
  have hlen : d.argLen < d.argBuf.toList.length := by simpa using h
  simp only [Decoder.arguments, appendArgument, Vector.toList_setIfInBounds]
  rw [List.take_add_one, List.getElem?_set_self hlen, List.take_set_of_le (Nat.le_refl _)]
  rfl

theorem Decoder.arguments_length {d : Decoder} (h : d.argLen ≤ 16) : d.arguments.length = d.argLen := by
  simp [Decoder.arguments, h]

/-! ## What a step did -/

/-- Every way a step answers a next state. -/
inductive StepNext (s t : State) : Prop
  | idle (h : s.pending = []) (ht : t = s)
  | control (w : Word) (rest : List Transaction) (h : s.pending = .write 4 .word w :: rest)
      (ht : exec (decodeGp1 w) (s.setPending rest) = .next t)
  | readData (rest : List Transaction) (h : s.pending = .read 0 .word :: rest)
      (ht : exec .readData (s.setPending rest) = .next t)
  | readStatus (rest : List Transaction) (h : s.pending = .read 4 .word :: rest)
      (ht : exec .readStatus (s.setPending rest) = .next t)
  | elapse (n : Nat) (rest : List Transaction) (h : s.pending = .elapse n :: rest)
      (ht : exec (.step n) (s.setPending rest) = .next t)
  | backend (x y : Int) (v : Half) (sm cm : Bool) (rest : List Transaction)
      (h : s.pending = .backend x y v sm cm :: rest)
      (ht : exec (.backendWrite x y v sm cm) (s.setPending rest) = .next t)
  | immediate (w : Word) (rest : List Transaction) (h : s.pending = .write 0 .word w :: rest)
      (hi : s.dec.state = .idle) (hk : kindOf (opOf w) = none)
      (ht : exec (decodeImmediate w) (s.setPending rest) = .next t)
  | start (w : Word) (rest : List Transaction) (k : DecKind) (h : s.pending = .write 0 .word w :: rest)
      (hi : s.dec.state = .idle) (hk : kindOf (opOf w) = some k) (ht : t = startCommand k w (s.setPending rest))
  | argument (w : Word) (rest : List Transaction) (h : s.pending = .write 0 .word w :: rest)
      (hi : s.dec.state = .accum)
      (hn : (appendArgument s.cfg w s.dec).argLen ≠ (appendArgument s.cfg w s.dec).argExpected)
      (ht : t = (s.setPending rest).setDec (appendArgument s.cfg w s.dec))
  | dispatch (w : Word) (rest : List Transaction) (i : Instr) (h : s.pending = .write 0 .word w :: rest)
      (hi : s.dec.state = .accum)
      (hn : (appendArgument s.cfg w s.dec).argLen = (appendArgument s.cfg w s.dec).argExpected)
      (hk : kindOf (opOf s.dec.cmdWord) = some s.dec.kind)
      (hd : decodeGp0 s.dec.cmdWord (appendArgument s.cfg w s.dec).arguments = .ok i)
      (ht : exec i ((s.setPending rest).setDec (appendArgument s.cfg w s.dec)) = .next t)
  | data (w : Word) (rest : List Transaction) (h : s.pending = .write 0 .word w :: rest)
      (hi : s.dec.state = .transfer) (ht : t = copyDataWord w (s.setPending rest))

/-- A step that answers a next state took one of these ways, and `fault` was 0 unless nothing was pending. -/
theorem step_next {s t : State} (h : step s = .next t) : StepNext s t := by
  cases hp : s.pending with
  | nil =>
    rw [step_nil hp] at h
    injection h with h
    exact .idle hp h.symm
  | cons tr rest =>
    rw [step_cons hp] at h
    cases hf : s.fault with
    | true => simp [accept, hf] at h
    | false =>
      cases tr with
      | write offset size w =>
        by_cases h0 : offset = 0 ∧ size = .word
        · obtain ⟨rfl, rfl⟩ := h0
          cases hi : s.dec.state with
          | idle =>
            cases hk : kindOf (opOf w) with
            | none =>
              simp [accept, hf, acceptDraw, hi, hk] at h
              exact .immediate w rest hp hi hk h
            | some k =>
              simp [accept, hf, acceptDraw, hi, hk] at h
              exact .start w rest k hp hi hk h.symm
          | accum =>
            by_cases hn : (appendArgument s.cfg w s.dec).argLen = (appendArgument s.cfg w s.dec).argExpected
            · have hc : (appendArgument s.cfg w s.dec).cmdWord = s.dec.cmdWord := rfl
              have hc' : (appendArgument s.cfg w s.dec).kind = s.dec.kind := rfl
              by_cases hk : kindOf (opOf s.dec.cmdWord) = some s.dec.kind
              · cases hd : decodeGp0 s.dec.cmdWord (appendArgument s.cfg w s.dec).arguments with
                | ok i =>
                  simp [accept, hf, acceptDraw, hi, hn, dispatch, hc, hc', hk, hd] at h
                  exact .dispatch w rest i hp hi hn hk hd h
                | error e => simp [accept, hf, acceptDraw, hi, hn, dispatch, hc, hc', hk, hd] at h
              · simp [accept, hf, acceptDraw, hi, hn, dispatch, hc, hc', hk] at h
            · simp [accept, hf, acceptDraw, hi, hn] at h
              exact .argument w rest hp hi hn h.symm
          | transfer =>
            simp [accept, hf, acceptDraw, hi] at h
            exact .data w rest hp hi h.symm
        · by_cases h4 : offset = 4 ∧ size = .word
          · obtain ⟨rfl, rfl⟩ := h4
            simp [accept, hf] at h
            exact .control w rest hp h
          · simp [accept, hf, h0, h4] at h
      | read offset size =>
        by_cases h0 : offset = 0 ∧ size = .word
        · obtain ⟨rfl, rfl⟩ := h0
          simp [accept, hf] at h
          exact .readData rest hp h
        · by_cases h4 : offset = 4 ∧ size = .word
          · obtain ⟨rfl, rfl⟩ := h4
            simp [accept, hf] at h
            exact .readStatus rest hp h
          · simp [accept, hf, h0, h4] at h
      | elapse n =>
        simp [accept, hf] at h
        exact .elapse n rest hp h
      | backend x y v sm cm =>
        simp [accept, hf] at h
        exact .backend x y v sm cm rest hp h

/-! ## What a dispatched command did -/

/-- Every effect a dispatched command can have (42_primitives, 43_vram_copy), by its class. -/
inductive DispatchNext (k : DecKind) (w : Word) (s t : State) : Prop
  | fill (hk : k = .fill) (c : Color) (pos size : PairWord)
      (ht : t = (s.setVram (fillVram c pos size s.vram)).dispatched .idle)
  | emit (hk : k = .polygon ∨ k = .line ∨ k = .rect) (es : List Emission) (ht : t = (s.emit es).dispatched .idle)
  | copyVramVram (hk : k = .copyVramVram) (src dst size : PairWord)
      (ht : t = (copyOrAbort src dst size (reservedCheck 0x80#8 (colorOf w) s)).dispatched .idle)
  | copyCpuVram (hk : k = .copyCpuVram) (dst size : PairWord)
      (ht : t = ((reservedCheck 0xA0#8 (colorOf w) s).setWr (transferOf dst size)).dispatched .transfer)
  | copyVramCpu (hk : k = .copyVramCpu) (src size : PairWord)
      (ht : t = (((reservedCheck 0xC0#8 (colorOf w) s).setRd (transferOf src size)).setReadMode
        .vramTransfer).dispatched .idle)

theorem dispatch_next {k : DecKind} {w : Word} {args : List Word} {i : Instr} {s t : State}
    (hk : kindOf (opOf w) = some k) (hd : decodeGp0 w args = .ok i) (h : exec i s = .next t) : DispatchNext k w s t := by
  cases k with
  | fill =>
    rw [decodeGp0_fill hk] at hd
    obtain ⟨_, _, _, rfl⟩ := takePairs2_ok hd
    exact .fill rfl _ _ _ (State.commit_eq_next.1 h).2
  | polygon =>
    rw [decodeGp0_polygon hk] at hd
    obtain ⟨es, he⟩ := exec_of_isPolygon (decodePolygon_ok hk hd).2.2 s
    exact .emit (.inl rfl) es (State.commit_eq_next.1 (he ▸ h)).2
  | line =>
    rw [decodeGp0_line hk] at hd
    cases hp : (opOf w).getLsbD 3 with
    | false =>
      obtain ⟨es, he⟩ := exec_of_isLine (decodeLine_single hk hp hd).2.2 s
      exact .emit (.inr (.inl rfl)) es (State.commit_eq_next.1 (he ▸ h)).2
    | true =>
      obtain ⟨es, he⟩ := exec_of_isPolyline (decodeLine_polyline hk hp hd).2.2 s
      exact .emit (.inr (.inl rfl)) es (State.commit_eq_next.1 (he ▸ h)).2
  | rect =>
    rw [decodeGp0_rect hk] at hd
    obtain ⟨es, he⟩ := exec_of_isRect (decodeRect_ok hk hd).2.2 s
    exact .emit (.inr (.inr rfl)) es (State.commit_eq_next.1 (he ▸ h)).2
  | copyVramVram =>
    rw [decodeGp0_copyVramVram hk] at hd
    obtain ⟨_, _, _, _, rfl⟩ := takePairs3_ok hd
    exact .copyVramVram rfl _ _ _ (State.commit_eq_next.1 h).2
  | copyCpuVram =>
    rw [decodeGp0_copyCpuVram hk] at hd
    obtain ⟨_, _, _, rfl⟩ := takePairs2_ok hd
    exact .copyCpuVram rfl _ _ (State.commit_eq_next.1 h).2
  | copyVramCpu =>
    rw [decodeGp0_copyVramCpu hk] at hd
    obtain ⟨_, _, _, rfl⟩ := takePairs2_ok hd
    exact .copyVramCpu rfl _ _ (State.commit_eq_next.1 h).2

/-- A dispatched command completes when `fault` is 0. -/
theorem dispatch_completes {w : Word} {args : List Word} {i : Instr} {k : DecKind} {s : State}
    (hk : kindOf (opOf w) = some k) (hd : decodeGp0 w args = .ok i) (hf : s.fault = false) :
    ∃ t, exec i s = .next t := by
  cases k with
  | fill =>
    rw [decodeGp0_fill hk] at hd
    obtain ⟨_, _, _, rfl⟩ := takePairs2_ok hd
    exact ⟨_, State.commit_live hf⟩
  | polygon =>
    rw [decodeGp0_polygon hk] at hd
    obtain ⟨es, he⟩ := exec_of_isPolygon (decodePolygon_ok hk hd).2.2 s
    exact ⟨_, he.trans (State.commit_live hf)⟩
  | line =>
    rw [decodeGp0_line hk] at hd
    cases hp : (opOf w).getLsbD 3 with
    | false =>
      obtain ⟨es, he⟩ := exec_of_isLine (decodeLine_single hk hp hd).2.2 s
      exact ⟨_, he.trans (State.commit_live hf)⟩
    | true =>
      obtain ⟨es, he⟩ := exec_of_isPolyline (decodeLine_polyline hk hp hd).2.2 s
      exact ⟨_, he.trans (State.commit_live hf)⟩
  | rect =>
    rw [decodeGp0_rect hk] at hd
    obtain ⟨es, he⟩ := exec_of_isRect (decodeRect_ok hk hd).2.2 s
    exact ⟨_, he.trans (State.commit_live hf)⟩
  | copyVramVram =>
    rw [decodeGp0_copyVramVram hk] at hd
    obtain ⟨_, _, _, _, rfl⟩ := takePairs3_ok hd
    exact ⟨_, State.commit_live hf⟩
  | copyCpuVram =>
    rw [decodeGp0_copyCpuVram hk] at hd
    obtain ⟨_, _, _, rfl⟩ := takePairs2_ok hd
    exact ⟨_, State.commit_live hf⟩
  | copyVramCpu =>
    rw [decodeGp0_copyVramCpu hk] at hd
    obtain ⟨_, _, _, rfl⟩ := takePairs2_ok hd
    exact ⟨_, State.commit_live hf⟩

/-! ## What the single-word commands can change -/

/-- The reserved-field check only adds an event (43_vram_copy R243). -/
theorem reservedCheck_eq (op : Opcode) (r : Color) (s : State) :
    reservedCheck op r s =
      { s with diags := s.diags ++ if r = 0#24 then [] else [.diag .reservedFieldNonZero (op ++ r)] } := by
  unfold reservedCheck
  split
  · simp
  · rfl

/-- Every meaning commits one state: `exec` answers it while `fault` is 0 and refuses otherwise. -/
theorem exec_commits (i : Instr) (s : State) : ∃ t, exec i s = s.commit t := by
  cases i
  case resetCmdbuf word =>
    show ∃ t, execResetCmdbuf word s = s.commit t
    unfold execResetCmdbuf
    split <;> exact ⟨_, rfl⟩
  all_goals exact ⟨_, rfl⟩

/-- The unknown class has one meaning (41_gp0_immediate R169). -/
theorem exec_decodeUnknown (op : Opcode) (w : Word) (s : State) :
    exec (decodeUnknown op w) s = unknownCommand w s := by
  have choose : ∀ (c : Prop) [Decidable c] (i j : Instr), exec i s = unknownCommand w s →
      exec j s = unknownCommand w s → exec (if c then i else j) s = unknownCommand w s := by
    intro c _ i j hi hj
    split
    · exact hi
    · exact hj
  unfold decodeUnknown
  iterate 25 refine choose _ _ _ rfl ?_
  rfl

/-- What a single-word draw command can change: the register bank and the diagnostic stream; the IRQ latch only by
opcode 0x1F, which sets it. -/
theorem immediate_next {w : Word} {s t : State} (h : exec (decodeImmediate w) s = .next t) :
    ∃ b es, t = { s with bank := b, diags := s.diags ++ es }
      ∧ (b.irqLatch = s.bank.irqLatch ∨ opOf w = 0x1F#8 ∧ b.irqLatch = true) := by
  unfold decodeImmediate at h
  split at h
  case h_1 => exact ⟨s.bank, [], by simp [(State.commit_eq_next.1 h).2], .inl rfl⟩
  case h_2 => exact ⟨s.bank, [], by simp [(State.commit_eq_next.1 h).2], .inl rfl⟩
  case h_3 heq =>
    exact ⟨{ s.bank with irqLatch := true }, [], by simp [(State.commit_eq_next.1 h).2, State.setBank],
      .inr ⟨BitVec.eq_of_toNat_eq heq, rfl⟩⟩
  case h_10 =>
    rw [exec_decodeUnknown] at h
    exact ⟨s.bank, [.diag .unknownGp0Opcode w], (State.commit_eq_next.1 h).2, .inl rfl⟩
  all_goals
    refine ⟨t.bank, [], ?_, .inl ?_⟩
    · simp [(State.commit_eq_next.1 h).2, State.setBank]
    · rw [(State.commit_eq_next.1 h).2]
      rfl

/-- What a control command can change, and how: not VRAM, the timing, the emissions or the results. -/
structure ControlNext (w : Word) (s t : State) : Prop where
  frame : t.vram = s.vram ∧ t.emissions = s.emissions ∧ t.timing = s.timing ∧ t.results = s.results
    ∧ t.pending = s.pending ∧ t.cfg = s.cfg ∧ ∃ es, t.diags = s.diags ++ es
  /-- the decoder is untouched, or cleared by the first two opcodes -/
  dec : t.dec = s.dec ∧ t.wr = s.wr ∨ op1Of w = 0#6 ∧ t.dec = s.dec.cleared .idle
    ∨ op1Of w = 1#6 ∧ t.dec = s.dec.cleared .idle
  /-- no control command starts a read-back -/
  read : t.readMode = s.readMode ∧ t.rd = s.rd ∨ t.readMode ≠ .vramTransfer
  /-- the IRQ latch is only cleared, by two opcodes -/
  irq : t.bank.irqLatch = s.bank.irqLatch
    ∨ t.bank.irqLatch = false ∧ (op1Of w = 0#6 ∨ op1Of w = 2#6)

theorem control_next {w : Word} {s t : State} (h : exec (decodeGp1 w) s = .next t) : ControlNext w s t := by
  have query : ∀ l, t = (s.setReadMode .infoQuery).setReadLatch l → ControlNext w s t := by
    rintro l rfl
    exact ⟨⟨rfl, rfl, rfl, rfl, rfl, rfl, [], (List.append_nil _).symm⟩, .inl ⟨rfl, rfl⟩,
      .inr (by simp), .inl rfl⟩
  have empty : t = s.setReadMode .infoQuery → ControlNext w s t := by
    rintro rfl
    exact query s.readLatch rfl
  have fatal : t = s.raiseFatal w → ControlNext w s t := by
    rintro rfl
    exact ⟨⟨rfl, rfl, rfl, rfl, rfl, rfl, _, rfl⟩, .inl ⟨rfl, rfl⟩, .inl ⟨rfl, rfl⟩, .inl rfl⟩
  unfold decodeGp1 at h
  split at h
  case h_1 heq =>
    have ht := (State.commit_eq_next.1 h).2
    subst ht
    exact ⟨⟨rfl, rfl, rfl, rfl, rfl, rfl, [], (List.append_nil _).symm⟩,
      .inr (.inl ⟨BitVec.eq_of_toNat_eq heq, rfl⟩), .inr (by simp), .inr ⟨rfl, .inl (BitVec.eq_of_toNat_eq heq)⟩⟩
  case h_2 heq =>
    have h : execResetCmdbuf w s = .next t := h
    unfold execResetCmdbuf at h
    split at h
    · have ht := (State.commit_eq_next.1 h).2
      subst ht
      exact ⟨⟨rfl, rfl, rfl, rfl, rfl, rfl, [], (List.append_nil _).symm⟩,
        .inr (.inr ⟨BitVec.eq_of_toNat_eq heq, rfl⟩), .inl ⟨rfl, rfl⟩, .inl rfl⟩
    · have ht := (State.commit_eq_next.1 h).2
      subst ht
      exact ⟨⟨rfl, rfl, rfl, rfl, rfl, rfl, [], (List.append_nil _).symm⟩, .inl ⟨rfl, rfl⟩, .inl ⟨rfl, rfl⟩, .inl rfl⟩
    · exact fatal (State.commit_eq_next.1 h).2
  case h_3 heq =>
    have ht := (State.commit_eq_next.1 h).2
    subst ht
    exact ⟨⟨rfl, rfl, rfl, rfl, rfl, rfl, [], (List.append_nil _).symm⟩, .inl ⟨rfl, rfl⟩, .inl ⟨rfl, rfl⟩,
      .inr ⟨rfl, .inr (BitVec.eq_of_toNat_eq heq)⟩⟩
  case h_17 =>
    split at h
    · exact fatal (State.commit_eq_next.1 h).2
    · unfold decodeGetInfo at h
      split at h
      all_goals
        first
        | exact empty (State.commit_eq_next.1 h).2
        | exact query _ (State.commit_eq_next.1 h).2
  all_goals
    have ht := (State.commit_eq_next.1 h).2
    first
    | exact fatal ht
    | (subst ht
       exact ⟨⟨rfl, rfl, rfl, rfl, rfl, rfl, [], (List.append_nil _).symm⟩, .inl ⟨rfl, rfl⟩, .inl ⟨rfl, rfl⟩, .inl rfl⟩)

/-! ## What the other transactions change -/

/-- A data-port read changes the read registers, the read mode, the latch and the results. -/
theorem readData_next {s t : State} (h : exec .readData s = .next t) :
    ∃ w c m l, readDataPort s = (w, { s with rd := c, readMode := m, readLatch := l })
      ∧ t = { s with rd := c, readMode := m, readLatch := l, results := s.results ++ [.data w] } := by
  obtain ⟨w, c, m, l, he⟩ := readDataPort_frame s
  have h : execReadData s = .next t := h
  unfold execReadData at h
  rw [he] at h
  exact ⟨w, c, m, l, he, (State.commit_eq_next.1 h).2⟩

theorem readStatus_next {s t : State} (h : exec .readStatus s = .next t) :
    t = { s with results := s.results ++ [.status (statusWord s)] } := (State.commit_eq_next.1 h).2

theorem step_cycles_next {n : Nat} {s t : State} (h : exec (.step n) s = .next t) :
    t = { s with
      timing := (elapseTiming n s).1, results := s.results ++ [.frameComplete (elapseTiming n s).2] } :=
  (State.commit_eq_next.1 h).2

theorem backendWrite_next {x y : Int} {v : Half} {sm cm : Bool} {s t : State}
    (h : exec (.backendWrite x y v sm cm) s = .next t) : t = { s with vram := backendVram x y v sm cm s.vram } :=
  (State.commit_eq_next.1 h).2

end Sys2Proof.Machine
end

