-- ==== Sys2Proof/Laws/Timing.lean ====
section
/-! SUPPORT. What `Step` does to the timing state, as one equation (46_timing_engine R340 to R347). -/

namespace Sys2Proof.Machine

/-- Field parity as a Boolean expression (46_timing_engine R344). -/
theorem parityOf_eq (s : State) (t : Timing) :
    parityOf s t =
      (decide (t.line < vblankStart s) && if s.bank.dispMode.getLsbD 2 then t.frame.getLsbD 0 else t.line.testBit 0) := by
  unfold parityOf
  by_cases h : t.line < vblankStart s
  · rw [if_pos h, decide_eq_true h, Bool.true_and]
  · rw [if_neg h, decide_eq_false h, Bool.false_and]

/-- The wrap past the last line of a frame (46_timing_engine R343). -/
theorem elapseTiming_wrap {n : Nat} {s : State}
    (h : linesTotal s ≤ s.timing.line + (s.timing.dot + n) / s.cfg.dotsPerLine) :
    elapseTiming n s =
      ({ dot := (s.timing.dot + n) % s.cfg.dotsPerLine
         line := 0
         frame := s.timing.frame + 1#32
         odd := decide (0 < vblankStart s)
           && if s.bank.dispMode.getLsbD 2 then (s.timing.frame + 1#32).getLsbD 0 else Nat.testBit 0 0 }, true) := by
  unfold elapseTiming wrapFrame
  simp only [if_pos h, parityOf_eq]

/-- No wrap: the frame goes on (46_timing_engine R342). -/
theorem elapseTiming_within {n : Nat} {s : State}
    (h : ¬ linesTotal s ≤ s.timing.line + (s.timing.dot + n) / s.cfg.dotsPerLine) :
    elapseTiming n s =
      ({ dot := (s.timing.dot + n) % s.cfg.dotsPerLine
         line := s.timing.line + (s.timing.dot + n) / s.cfg.dotsPerLine
         frame := s.timing.frame
         odd := decide (s.timing.line + (s.timing.dot + n) / s.cfg.dotsPerLine < vblankStart s)
           && if s.bank.dispMode.getLsbD 2 then s.timing.frame.getLsbD 0
             else (s.timing.line + (s.timing.dot + n) / s.cfg.dotsPerLine).testBit 0 }, false) := by
  unfold elapseTiming wrapFrame
  simp only [if_neg h, parityOf_eq]

/-- `Step`, when `fault` is 0. -/
theorem exec_step {n : Nat} {s : State} (h : s.fault = false) :
    exec (.step n) s =
      .next { s with
        timing := (elapseTiming n s).1, results := s.results ++ [.frameComplete (elapseTiming n s).2] } :=
  State.commit_live h

end Sys2Proof.Machine
end

