-- ==== Sys2Proof/Tests/Slice0.lean ====
section
/-! SUPPORT. Tests: words written out from the spec's encodings, ill-formed terms refused, vectors of
95_test_vectors one step at a time, and a witness for the hypotheses of each statement. -/

namespace Sys2Proof.Tests

open Sys2Proof Sys2Proof.Machine

set_option maxRecDepth 100000

/-! ## Decoding, from words written out by 30_encoding -/

/-- Draw-port writes of some words. -/
def draws (ws : List Word) : List Transaction := ws.map (Transaction.write 0 .word)

/-- A control-port write. -/
def control (w : Word) : List Transaction := [.write 4 .word w]

/-- The decoder reads the instruction, and it is well-formed. -/
def reads : List Transaction × Instr → Bool
  | (ts, i) =>
    i.wellFormed &&
      match decode ts with
      | .ok j => j == i
      | .error _ => false

theorem test_decode_single_words :
  [
    (draws [0x00FFFFFF#32], .nop),
    (draws [0x01FFFFFF#32], .clearCache),
    (draws [0x1FFFFFFF#32], .irqRequest),
    (draws [0xE1ABCDEF#32], (.setDrawMode 0xABCDEF#24)),
    (draws [0xE2012345#32], (.setTexWindow 0x012345#24)),
    (draws [0xE3F04010#32], (.setClipTl 0x010#10 0x010#10)),
    (draws [0xE403C13F#32], (.setClipBr 0x13F#10 0x0F0#10)),
    (draws [0xE5DFFC00#32], (.setOffset 0x400#11 0x3FF#11)),
    (draws [0xE6FFFFFE#32], (.setMask false true))].all reads = true := by decide

theorem test_decode_fill_and_copies :
  [
    (draws [0x02FF8040#32, 0x00110022#32, 0x03FF0201#32], (.fillRect 0xFF8040#24 ⟨0x0022#16, 0x0011#16⟩ ⟨0x0201#16, 0x03FF#16⟩)),
    (draws [0x80C0FFEE#32, 0x00110022#32, 0x03FF0201#32, 0xFE0001F0#32], (.copyVramVram 0xC0FFEE#24 ⟨0x0022#16, 0x0011#16⟩ ⟨0x0201#16, 0x03FF#16⟩ ⟨0x01F0#16, 0xFE00#16⟩)),
    (draws [0xA0C0FFEE#32, 0x00110022#32, 0x03FF0201#32], (.copyCpuVram 0xC0FFEE#24 ⟨0x0022#16, 0x0011#16⟩ ⟨0x0201#16, 0x03FF#16⟩)),
    (draws [0xC0C0FFEE#32, 0x00110022#32, 0x03FF0201#32], (.copyVramCpu 0xC0FFEE#24 ⟨0x0022#16, 0x0011#16⟩ ⟨0x0201#16, 0x03FF#16⟩))].all reads = true := by decide

theorem test_decode_flat_triangles :
  [
    (draws [0x20808182#32, 0x00110022#32, 0x03FF0201#32, 0xFE0001F0#32], (.polyF3 0x808182#24 ⟨0x0022#16, 0x0011#16⟩ ⟨0x0201#16, 0x03FF#16⟩ ⟨0x01F0#16, 0xFE00#16⟩)),
    (draws [0x21808182#32, 0x00110022#32, 0x03FF0201#32, 0xFE0001F0#32], (.polyF3R 0x808182#24 ⟨0x0022#16, 0x0011#16⟩ ⟨0x0201#16, 0x03FF#16⟩ ⟨0x01F0#16, 0xFE00#16⟩)),
    (draws [0x22808182#32, 0x00110022#32, 0x03FF0201#32, 0xFE0001F0#32], (.polyF3S 0x808182#24 ⟨0x0022#16, 0x0011#16⟩ ⟨0x0201#16, 0x03FF#16⟩ ⟨0x01F0#16, 0xFE00#16⟩)),
    (draws [0x23808182#32, 0x00110022#32, 0x03FF0201#32, 0xFE0001F0#32], (.polyF3SR 0x808182#24 ⟨0x0022#16, 0x0011#16⟩ ⟨0x0201#16, 0x03FF#16⟩ ⟨0x01F0#16, 0xFE00#16⟩)),
    (draws [0x24808182#32, 0x00110022#32, 0x12340102#32, 0x03FF0201#32, 0x01850304#32, 0xFE0001F0#32, 0xFFFF0506#32], (.polyFT3 0x808182#24 ⟨0x0022#16, 0x0011#16⟩ ⟨0x02#8, 0x01#8, 0x1234#16⟩ ⟨0x0201#16, 0x03FF#16⟩ ⟨0x04#8, 0x03#8, 0x0185#16⟩ ⟨0x01F0#16, 0xFE00#16⟩ ⟨0x06#8, 0x05#8, 0xFFFF#16⟩)),
    (draws [0x25808182#32, 0x00110022#32, 0x12340102#32, 0x03FF0201#32, 0x01850304#32, 0xFE0001F0#32, 0xFFFF0506#32], (.polyFT3R 0x808182#24 ⟨0x0022#16, 0x0011#16⟩ ⟨0x02#8, 0x01#8, 0x1234#16⟩ ⟨0x0201#16, 0x03FF#16⟩ ⟨0x04#8, 0x03#8, 0x0185#16⟩ ⟨0x01F0#16, 0xFE00#16⟩ ⟨0x06#8, 0x05#8, 0xFFFF#16⟩)),
    (draws [0x26808182#32, 0x00110022#32, 0x12340102#32, 0x03FF0201#32, 0x01850304#32, 0xFE0001F0#32, 0xFFFF0506#32], (.polyFT3S 0x808182#24 ⟨0x0022#16, 0x0011#16⟩ ⟨0x02#8, 0x01#8, 0x1234#16⟩ ⟨0x0201#16, 0x03FF#16⟩ ⟨0x04#8, 0x03#8, 0x0185#16⟩ ⟨0x01F0#16, 0xFE00#16⟩ ⟨0x06#8, 0x05#8, 0xFFFF#16⟩)),
    (draws [0x27808182#32, 0x00110022#32, 0x12340102#32, 0x03FF0201#32, 0x01850304#32, 0xFE0001F0#32, 0xFFFF0506#32], (.polyFT3SR 0x808182#24 ⟨0x0022#16, 0x0011#16⟩ ⟨0x02#8, 0x01#8, 0x1234#16⟩ ⟨0x0201#16, 0x03FF#16⟩ ⟨0x04#8, 0x03#8, 0x0185#16⟩ ⟨0x01F0#16, 0xFE00#16⟩ ⟨0x06#8, 0x05#8, 0xFFFF#16⟩))].all reads = true := by decide

theorem test_decode_flat_quads :
  [
    (draws [0x28808182#32, 0x00110022#32, 0x03FF0201#32, 0xFE0001F0#32, 0x80007FFF#32], (.polyF4 0x808182#24 ⟨0x0022#16, 0x0011#16⟩ ⟨0x0201#16, 0x03FF#16⟩ ⟨0x01F0#16, 0xFE00#16⟩ ⟨0x7FFF#16, 0x8000#16⟩)),
    (draws [0x29808182#32, 0x00110022#32, 0x03FF0201#32, 0xFE0001F0#32, 0x80007FFF#32], (.polyF4R 0x808182#24 ⟨0x0022#16, 0x0011#16⟩ ⟨0x0201#16, 0x03FF#16⟩ ⟨0x01F0#16, 0xFE00#16⟩ ⟨0x7FFF#16, 0x8000#16⟩)),
    (draws [0x2A808182#32, 0x00110022#32, 0x03FF0201#32, 0xFE0001F0#32, 0x80007FFF#32], (.polyF4S 0x808182#24 ⟨0x0022#16, 0x0011#16⟩ ⟨0x0201#16, 0x03FF#16⟩ ⟨0x01F0#16, 0xFE00#16⟩ ⟨0x7FFF#16, 0x8000#16⟩)),
    (draws [0x2B808182#32, 0x00110022#32, 0x03FF0201#32, 0xFE0001F0#32, 0x80007FFF#32], (.polyF4SR 0x808182#24 ⟨0x0022#16, 0x0011#16⟩ ⟨0x0201#16, 0x03FF#16⟩ ⟨0x01F0#16, 0xFE00#16⟩ ⟨0x7FFF#16, 0x8000#16⟩)),
    (draws [0x2C808182#32, 0x00110022#32, 0x12340102#32, 0x03FF0201#32, 0x01850304#32, 0xFE0001F0#32, 0xFFFF0506#32, 0x80007FFF#32, 0xABCD0708#32], (.polyFT4 0x808182#24 ⟨0x0022#16, 0x0011#16⟩ ⟨0x02#8, 0x01#8, 0x1234#16⟩ ⟨0x0201#16, 0x03FF#16⟩ ⟨0x04#8, 0x03#8, 0x0185#16⟩ ⟨0x01F0#16, 0xFE00#16⟩ ⟨0x06#8, 0x05#8, 0xFFFF#16⟩ ⟨0x7FFF#16, 0x8000#16⟩ ⟨0x08#8, 0x07#8, 0xABCD#16⟩)),
    (draws [0x2D808182#32, 0x00110022#32, 0x12340102#32, 0x03FF0201#32, 0x01850304#32, 0xFE0001F0#32, 0xFFFF0506#32, 0x80007FFF#32, 0xABCD0708#32], (.polyFT4R 0x808182#24 ⟨0x0022#16, 0x0011#16⟩ ⟨0x02#8, 0x01#8, 0x1234#16⟩ ⟨0x0201#16, 0x03FF#16⟩ ⟨0x04#8, 0x03#8, 0x0185#16⟩ ⟨0x01F0#16, 0xFE00#16⟩ ⟨0x06#8, 0x05#8, 0xFFFF#16⟩ ⟨0x7FFF#16, 0x8000#16⟩ ⟨0x08#8, 0x07#8, 0xABCD#16⟩)),
    (draws [0x2E808182#32, 0x00110022#32, 0x12340102#32, 0x03FF0201#32, 0x01850304#32, 0xFE0001F0#32, 0xFFFF0506#32, 0x80007FFF#32, 0xABCD0708#32], (.polyFT4S 0x808182#24 ⟨0x0022#16, 0x0011#16⟩ ⟨0x02#8, 0x01#8, 0x1234#16⟩ ⟨0x0201#16, 0x03FF#16⟩ ⟨0x04#8, 0x03#8, 0x0185#16⟩ ⟨0x01F0#16, 0xFE00#16⟩ ⟨0x06#8, 0x05#8, 0xFFFF#16⟩ ⟨0x7FFF#16, 0x8000#16⟩ ⟨0x08#8, 0x07#8, 0xABCD#16⟩)),
    (draws [0x2F808182#32, 0x00110022#32, 0x12340102#32, 0x03FF0201#32, 0x01850304#32, 0xFE0001F0#32, 0xFFFF0506#32, 0x80007FFF#32, 0xABCD0708#32], (.polyFT4SR 0x808182#24 ⟨0x0022#16, 0x0011#16⟩ ⟨0x02#8, 0x01#8, 0x1234#16⟩ ⟨0x0201#16, 0x03FF#16⟩ ⟨0x04#8, 0x03#8, 0x0185#16⟩ ⟨0x01F0#16, 0xFE00#16⟩ ⟨0x06#8, 0x05#8, 0xFFFF#16⟩ ⟨0x7FFF#16, 0x8000#16⟩ ⟨0x08#8, 0x07#8, 0xABCD#16⟩))].all reads = true := by decide

theorem test_decode_gouraud_triangles :
  [
    (draws [0x30808182#32, 0x00110022#32, 0xAAFF8040#32, 0x03FF0201#32, 0x5500FF01#32, 0xFE0001F0#32], (.polyG3 0x808182#24 ⟨0x0022#16, 0x0011#16⟩ 0xFF8040#24 ⟨0x0201#16, 0x03FF#16⟩ 0x00FF01#24 ⟨0x01F0#16, 0xFE00#16⟩)),
    (draws [0x31808182#32, 0x00110022#32, 0xAAFF8040#32, 0x03FF0201#32, 0x5500FF01#32, 0xFE0001F0#32], (.polyG3R 0x808182#24 ⟨0x0022#16, 0x0011#16⟩ 0xFF8040#24 ⟨0x0201#16, 0x03FF#16⟩ 0x00FF01#24 ⟨0x01F0#16, 0xFE00#16⟩)),
    (draws [0x32808182#32, 0x00110022#32, 0xAAFF8040#32, 0x03FF0201#32, 0x5500FF01#32, 0xFE0001F0#32], (.polyG3S 0x808182#24 ⟨0x0022#16, 0x0011#16⟩ 0xFF8040#24 ⟨0x0201#16, 0x03FF#16⟩ 0x00FF01#24 ⟨0x01F0#16, 0xFE00#16⟩)),
    (draws [0x33808182#32, 0x00110022#32, 0xAAFF8040#32, 0x03FF0201#32, 0x5500FF01#32, 0xFE0001F0#32], (.polyG3SR 0x808182#24 ⟨0x0022#16, 0x0011#16⟩ 0xFF8040#24 ⟨0x0201#16, 0x03FF#16⟩ 0x00FF01#24 ⟨0x01F0#16, 0xFE00#16⟩)),
    (draws [0x34808182#32, 0x00110022#32, 0x12340102#32, 0xAAFF8040#32, 0x03FF0201#32, 0x01850304#32, 0x5500FF01#32, 0xFE0001F0#32, 0xFFFF0506#32], (.polyGT3 0x808182#24 ⟨0x0022#16, 0x0011#16⟩ ⟨0x02#8, 0x01#8, 0x1234#16⟩ 0xFF8040#24 ⟨0x0201#16, 0x03FF#16⟩ ⟨0x04#8, 0x03#8, 0x0185#16⟩ 0x00FF01#24 ⟨0x01F0#16, 0xFE00#16⟩ ⟨0x06#8, 0x05#8, 0xFFFF#16⟩)),
    (draws [0x35808182#32, 0x00110022#32, 0x12340102#32, 0xAAFF8040#32, 0x03FF0201#32, 0x01850304#32, 0x5500FF01#32, 0xFE0001F0#32, 0xFFFF0506#32], (.polyGT3R 0x808182#24 ⟨0x0022#16, 0x0011#16⟩ ⟨0x02#8, 0x01#8, 0x1234#16⟩ 0xFF8040#24 ⟨0x0201#16, 0x03FF#16⟩ ⟨0x04#8, 0x03#8, 0x0185#16⟩ 0x00FF01#24 ⟨0x01F0#16, 0xFE00#16⟩ ⟨0x06#8, 0x05#8, 0xFFFF#16⟩)),
    (draws [0x36808182#32, 0x00110022#32, 0x12340102#32, 0xAAFF8040#32, 0x03FF0201#32, 0x01850304#32, 0x5500FF01#32, 0xFE0001F0#32, 0xFFFF0506#32], (.polyGT3S 0x808182#24 ⟨0x0022#16, 0x0011#16⟩ ⟨0x02#8, 0x01#8, 0x1234#16⟩ 0xFF8040#24 ⟨0x0201#16, 0x03FF#16⟩ ⟨0x04#8, 0x03#8, 0x0185#16⟩ 0x00FF01#24 ⟨0x01F0#16, 0xFE00#16⟩ ⟨0x06#8, 0x05#8, 0xFFFF#16⟩)),
    (draws [0x37808182#32, 0x00110022#32, 0x12340102#32, 0xAAFF8040#32, 0x03FF0201#32, 0x01850304#32, 0x5500FF01#32, 0xFE0001F0#32, 0xFFFF0506#32], (.polyGT3SR 0x808182#24 ⟨0x0022#16, 0x0011#16⟩ ⟨0x02#8, 0x01#8, 0x1234#16⟩ 0xFF8040#24 ⟨0x0201#16, 0x03FF#16⟩ ⟨0x04#8, 0x03#8, 0x0185#16⟩ 0x00FF01#24 ⟨0x01F0#16, 0xFE00#16⟩ ⟨0x06#8, 0x05#8, 0xFFFF#16⟩))].all reads = true := by decide

theorem test_decode_gouraud_quads :
  [
    (draws [0x38808182#32, 0x00110022#32, 0xAAFF8040#32, 0x03FF0201#32, 0x5500FF01#32, 0xFE0001F0#32, 0xFF0000FE#32, 0x80007FFF#32], (.polyG4 0x808182#24 ⟨0x0022#16, 0x0011#16⟩ 0xFF8040#24 ⟨0x0201#16, 0x03FF#16⟩ 0x00FF01#24 ⟨0x01F0#16, 0xFE00#16⟩ 0x0000FE#24 ⟨0x7FFF#16, 0x8000#16⟩)),
    (draws [0x39808182#32, 0x00110022#32, 0xAAFF8040#32, 0x03FF0201#32, 0x5500FF01#32, 0xFE0001F0#32, 0xFF0000FE#32, 0x80007FFF#32], (.polyG4R 0x808182#24 ⟨0x0022#16, 0x0011#16⟩ 0xFF8040#24 ⟨0x0201#16, 0x03FF#16⟩ 0x00FF01#24 ⟨0x01F0#16, 0xFE00#16⟩ 0x0000FE#24 ⟨0x7FFF#16, 0x8000#16⟩)),
    (draws [0x3A808182#32, 0x00110022#32, 0xAAFF8040#32, 0x03FF0201#32, 0x5500FF01#32, 0xFE0001F0#32, 0xFF0000FE#32, 0x80007FFF#32], (.polyG4S 0x808182#24 ⟨0x0022#16, 0x0011#16⟩ 0xFF8040#24 ⟨0x0201#16, 0x03FF#16⟩ 0x00FF01#24 ⟨0x01F0#16, 0xFE00#16⟩ 0x0000FE#24 ⟨0x7FFF#16, 0x8000#16⟩)),
    (draws [0x3B808182#32, 0x00110022#32, 0xAAFF8040#32, 0x03FF0201#32, 0x5500FF01#32, 0xFE0001F0#32, 0xFF0000FE#32, 0x80007FFF#32], (.polyG4SR 0x808182#24 ⟨0x0022#16, 0x0011#16⟩ 0xFF8040#24 ⟨0x0201#16, 0x03FF#16⟩ 0x00FF01#24 ⟨0x01F0#16, 0xFE00#16⟩ 0x0000FE#24 ⟨0x7FFF#16, 0x8000#16⟩)),
    (draws [0x3C808182#32, 0x00110022#32, 0x12340102#32, 0xAAFF8040#32, 0x03FF0201#32, 0x01850304#32, 0x5500FF01#32, 0xFE0001F0#32, 0xFFFF0506#32, 0xFF0000FE#32, 0x80007FFF#32, 0xABCD0708#32], (.polyGT4 0x808182#24 ⟨0x0022#16, 0x0011#16⟩ ⟨0x02#8, 0x01#8, 0x1234#16⟩ 0xFF8040#24 ⟨0x0201#16, 0x03FF#16⟩ ⟨0x04#8, 0x03#8, 0x0185#16⟩ 0x00FF01#24 ⟨0x01F0#16, 0xFE00#16⟩ ⟨0x06#8, 0x05#8, 0xFFFF#16⟩ 0x0000FE#24 ⟨0x7FFF#16, 0x8000#16⟩ ⟨0x08#8, 0x07#8, 0xABCD#16⟩)),
    (draws [0x3D808182#32, 0x00110022#32, 0x12340102#32, 0xAAFF8040#32, 0x03FF0201#32, 0x01850304#32, 0x5500FF01#32, 0xFE0001F0#32, 0xFFFF0506#32, 0xFF0000FE#32, 0x80007FFF#32, 0xABCD0708#32], (.polyGT4R 0x808182#24 ⟨0x0022#16, 0x0011#16⟩ ⟨0x02#8, 0x01#8, 0x1234#16⟩ 0xFF8040#24 ⟨0x0201#16, 0x03FF#16⟩ ⟨0x04#8, 0x03#8, 0x0185#16⟩ 0x00FF01#24 ⟨0x01F0#16, 0xFE00#16⟩ ⟨0x06#8, 0x05#8, 0xFFFF#16⟩ 0x0000FE#24 ⟨0x7FFF#16, 0x8000#16⟩ ⟨0x08#8, 0x07#8, 0xABCD#16⟩)),
    (draws [0x3E808182#32, 0x00110022#32, 0x12340102#32, 0xAAFF8040#32, 0x03FF0201#32, 0x01850304#32, 0x5500FF01#32, 0xFE0001F0#32, 0xFFFF0506#32, 0xFF0000FE#32, 0x80007FFF#32, 0xABCD0708#32], (.polyGT4S 0x808182#24 ⟨0x0022#16, 0x0011#16⟩ ⟨0x02#8, 0x01#8, 0x1234#16⟩ 0xFF8040#24 ⟨0x0201#16, 0x03FF#16⟩ ⟨0x04#8, 0x03#8, 0x0185#16⟩ 0x00FF01#24 ⟨0x01F0#16, 0xFE00#16⟩ ⟨0x06#8, 0x05#8, 0xFFFF#16⟩ 0x0000FE#24 ⟨0x7FFF#16, 0x8000#16⟩ ⟨0x08#8, 0x07#8, 0xABCD#16⟩)),
    (draws [0x3F808182#32, 0x00110022#32, 0x12340102#32, 0xAAFF8040#32, 0x03FF0201#32, 0x01850304#32, 0x5500FF01#32, 0xFE0001F0#32, 0xFFFF0506#32, 0xFF0000FE#32, 0x80007FFF#32, 0xABCD0708#32], (.polyGT4SR 0x808182#24 ⟨0x0022#16, 0x0011#16⟩ ⟨0x02#8, 0x01#8, 0x1234#16⟩ 0xFF8040#24 ⟨0x0201#16, 0x03FF#16⟩ ⟨0x04#8, 0x03#8, 0x0185#16⟩ 0x00FF01#24 ⟨0x01F0#16, 0xFE00#16⟩ ⟨0x06#8, 0x05#8, 0xFFFF#16⟩ 0x0000FE#24 ⟨0x7FFF#16, 0x8000#16⟩ ⟨0x08#8, 0x07#8, 0xABCD#16⟩))].all reads = true := by decide

theorem test_decode_lines :
  [
    (draws [0x400A0B0C#32, 0x00110022#32, 0x03FF0201#32], (.lineF 0x0A0B0C#24 ⟨0x0022#16, 0x0011#16⟩ ⟨0x0201#16, 0x03FF#16⟩)),
    (draws [0x410A0B0C#32, 0x00110022#32, 0x03FF0201#32], (.lineF41 0x0A0B0C#24 ⟨0x0022#16, 0x0011#16⟩ ⟨0x0201#16, 0x03FF#16⟩)),
    (draws [0x420A0B0C#32, 0x00110022#32, 0x03FF0201#32], (.lineFS 0x0A0B0C#24 ⟨0x0022#16, 0x0011#16⟩ ⟨0x0201#16, 0x03FF#16⟩)),
    (draws [0x430A0B0C#32, 0x00110022#32, 0x03FF0201#32], (.lineFS43 0x0A0B0C#24 ⟨0x0022#16, 0x0011#16⟩ ⟨0x0201#16, 0x03FF#16⟩)),
    (draws [0x440A0B0C#32, 0x00110022#32, 0x03FF0201#32], (.lineF44 0x0A0B0C#24 ⟨0x0022#16, 0x0011#16⟩ ⟨0x0201#16, 0x03FF#16⟩)),
    (draws [0x450A0B0C#32, 0x00110022#32, 0x03FF0201#32], (.lineF45 0x0A0B0C#24 ⟨0x0022#16, 0x0011#16⟩ ⟨0x0201#16, 0x03FF#16⟩)),
    (draws [0x460A0B0C#32, 0x00110022#32, 0x03FF0201#32], (.lineFS46 0x0A0B0C#24 ⟨0x0022#16, 0x0011#16⟩ ⟨0x0201#16, 0x03FF#16⟩)),
    (draws [0x470A0B0C#32, 0x00110022#32, 0x03FF0201#32], (.lineFS47 0x0A0B0C#24 ⟨0x0022#16, 0x0011#16⟩ ⟨0x0201#16, 0x03FF#16⟩)),
    (draws [0x500A0B0C#32, 0x00110022#32, 0xAAFF8040#32, 0x03FF0201#32], (.lineG 0x0A0B0C#24 ⟨0x0022#16, 0x0011#16⟩ 0xFF8040#24 ⟨0x0201#16, 0x03FF#16⟩)),
    (draws [0x510A0B0C#32, 0x00110022#32, 0xAAFF8040#32, 0x03FF0201#32], (.lineG51 0x0A0B0C#24 ⟨0x0022#16, 0x0011#16⟩ 0xFF8040#24 ⟨0x0201#16, 0x03FF#16⟩)),
    (draws [0x520A0B0C#32, 0x00110022#32, 0xAAFF8040#32, 0x03FF0201#32], (.lineGS 0x0A0B0C#24 ⟨0x0022#16, 0x0011#16⟩ 0xFF8040#24 ⟨0x0201#16, 0x03FF#16⟩)),
    (draws [0x530A0B0C#32, 0x00110022#32, 0xAAFF8040#32, 0x03FF0201#32], (.lineGS53 0x0A0B0C#24 ⟨0x0022#16, 0x0011#16⟩ 0xFF8040#24 ⟨0x0201#16, 0x03FF#16⟩)),
    (draws [0x540A0B0C#32, 0x00110022#32, 0xAAFF8040#32, 0x03FF0201#32], (.lineG54 0x0A0B0C#24 ⟨0x0022#16, 0x0011#16⟩ 0xFF8040#24 ⟨0x0201#16, 0x03FF#16⟩)),
    (draws [0x550A0B0C#32, 0x00110022#32, 0xAAFF8040#32, 0x03FF0201#32], (.lineG55 0x0A0B0C#24 ⟨0x0022#16, 0x0011#16⟩ 0xFF8040#24 ⟨0x0201#16, 0x03FF#16⟩)),
    (draws [0x560A0B0C#32, 0x00110022#32, 0xAAFF8040#32, 0x03FF0201#32], (.lineGS56 0x0A0B0C#24 ⟨0x0022#16, 0x0011#16⟩ 0xFF8040#24 ⟨0x0201#16, 0x03FF#16⟩)),
    (draws [0x570A0B0C#32, 0x00110022#32, 0xAAFF8040#32, 0x03FF0201#32], (.lineGS57 0x0A0B0C#24 ⟨0x0022#16, 0x0011#16⟩ 0xFF8040#24 ⟨0x0201#16, 0x03FF#16⟩))].all reads = true := by decide

theorem test_decode_polylines :
  [
    (draws [0x480D0E0F#32, 0x00110022#32, 0xAAFF8040#32, 0xFE0001F0#32, 0x55555555#32], (.plineF 0x0D0E0F#24 [0x00110022#32, 0xAAFF8040#32, 0xFE0001F0#32, 0x55555555#32])),
    (draws [0x490D0E0F#32, 0x00110022#32, 0xAAFF8040#32, 0xFE0001F0#32, 0x55555555#32], (.plineF49 0x0D0E0F#24 [0x00110022#32, 0xAAFF8040#32, 0xFE0001F0#32, 0x55555555#32])),
    (draws [0x4A0D0E0F#32, 0x00110022#32, 0xAAFF8040#32, 0xFE0001F0#32, 0x55555555#32], (.plineFS 0x0D0E0F#24 [0x00110022#32, 0xAAFF8040#32, 0xFE0001F0#32, 0x55555555#32])),
    (draws [0x4B0D0E0F#32, 0x00110022#32, 0xAAFF8040#32, 0xFE0001F0#32, 0x55555555#32], (.plineFS4B 0x0D0E0F#24 [0x00110022#32, 0xAAFF8040#32, 0xFE0001F0#32, 0x55555555#32])),
    (draws [0x4C0D0E0F#32, 0x00110022#32, 0xAAFF8040#32, 0xFE0001F0#32, 0x55555555#32], (.plineF4C 0x0D0E0F#24 [0x00110022#32, 0xAAFF8040#32, 0xFE0001F0#32, 0x55555555#32])),
    (draws [0x4D0D0E0F#32, 0x00110022#32, 0xAAFF8040#32, 0xFE0001F0#32, 0x55555555#32], (.plineF4D 0x0D0E0F#24 [0x00110022#32, 0xAAFF8040#32, 0xFE0001F0#32, 0x55555555#32])),
    (draws [0x4E0D0E0F#32, 0x00110022#32, 0xAAFF8040#32, 0xFE0001F0#32, 0x55555555#32], (.plineFS4E 0x0D0E0F#24 [0x00110022#32, 0xAAFF8040#32, 0xFE0001F0#32, 0x55555555#32])),
    (draws [0x4F0D0E0F#32, 0x00110022#32, 0xAAFF8040#32, 0xFE0001F0#32, 0x55555555#32], (.plineFS4F 0x0D0E0F#24 [0x00110022#32, 0xAAFF8040#32, 0xFE0001F0#32, 0x55555555#32])),
    (draws [0x580D0E0F#32, 0x00110022#32, 0xAAFF8040#32, 0xFE0001F0#32, 0x55555555#32], (.plineG 0x0D0E0F#24 [0x00110022#32, 0xAAFF8040#32, 0xFE0001F0#32, 0x55555555#32])),
    (draws [0x590D0E0F#32, 0x00110022#32, 0xAAFF8040#32, 0xFE0001F0#32, 0x55555555#32], (.plineG59 0x0D0E0F#24 [0x00110022#32, 0xAAFF8040#32, 0xFE0001F0#32, 0x55555555#32])),
    (draws [0x5A0D0E0F#32, 0x00110022#32, 0xAAFF8040#32, 0xFE0001F0#32, 0x55555555#32], (.plineGS 0x0D0E0F#24 [0x00110022#32, 0xAAFF8040#32, 0xFE0001F0#32, 0x55555555#32])),
    (draws [0x5B0D0E0F#32, 0x00110022#32, 0xAAFF8040#32, 0xFE0001F0#32, 0x55555555#32], (.plineGS5B 0x0D0E0F#24 [0x00110022#32, 0xAAFF8040#32, 0xFE0001F0#32, 0x55555555#32])),
    (draws [0x5C0D0E0F#32, 0x00110022#32, 0xAAFF8040#32, 0xFE0001F0#32, 0x55555555#32], (.plineG5C 0x0D0E0F#24 [0x00110022#32, 0xAAFF8040#32, 0xFE0001F0#32, 0x55555555#32])),
    (draws [0x5D0D0E0F#32, 0x00110022#32, 0xAAFF8040#32, 0xFE0001F0#32, 0x55555555#32], (.plineG5D 0x0D0E0F#24 [0x00110022#32, 0xAAFF8040#32, 0xFE0001F0#32, 0x55555555#32])),
    (draws [0x5E0D0E0F#32, 0x00110022#32, 0xAAFF8040#32, 0xFE0001F0#32, 0x55555555#32], (.plineGS5E 0x0D0E0F#24 [0x00110022#32, 0xAAFF8040#32, 0xFE0001F0#32, 0x55555555#32])),
    (draws [0x5F0D0E0F#32, 0x00110022#32, 0xAAFF8040#32, 0xFE0001F0#32, 0x55555555#32], (.plineGS5F 0x0D0E0F#24 [0x00110022#32, 0xAAFF8040#32, 0xFE0001F0#32, 0x55555555#32]))].all reads = true := by decide

theorem test_decode_rectangles_1 :
  [
    (draws [0x60112233#32, 0x00110022#32, 0x80007FFF#32], (.rectV 0x112233#24 ⟨0x0022#16, 0x0011#16⟩ ⟨0x7FFF#16, 0x8000#16⟩)),
    (draws [0x61112233#32, 0x00110022#32, 0x80007FFF#32], (.rectVR 0x112233#24 ⟨0x0022#16, 0x0011#16⟩ ⟨0x7FFF#16, 0x8000#16⟩)),
    (draws [0x62112233#32, 0x00110022#32, 0x80007FFF#32], (.rectVS 0x112233#24 ⟨0x0022#16, 0x0011#16⟩ ⟨0x7FFF#16, 0x8000#16⟩)),
    (draws [0x63112233#32, 0x00110022#32, 0x80007FFF#32], (.rectVSR 0x112233#24 ⟨0x0022#16, 0x0011#16⟩ ⟨0x7FFF#16, 0x8000#16⟩)),
    (draws [0x64112233#32, 0x00110022#32, 0x12340102#32, 0x80007FFF#32], (.rectVT 0x112233#24 ⟨0x0022#16, 0x0011#16⟩ ⟨0x02#8, 0x01#8, 0x1234#16⟩ ⟨0x7FFF#16, 0x8000#16⟩)),
    (draws [0x65112233#32, 0x00110022#32, 0x12340102#32, 0x80007FFF#32], (.rectVTR 0x112233#24 ⟨0x0022#16, 0x0011#16⟩ ⟨0x02#8, 0x01#8, 0x1234#16⟩ ⟨0x7FFF#16, 0x8000#16⟩)),
    (draws [0x66112233#32, 0x00110022#32, 0x12340102#32, 0x80007FFF#32], (.rectVTS 0x112233#24 ⟨0x0022#16, 0x0011#16⟩ ⟨0x02#8, 0x01#8, 0x1234#16⟩ ⟨0x7FFF#16, 0x8000#16⟩)),
    (draws [0x67112233#32, 0x00110022#32, 0x12340102#32, 0x80007FFF#32], (.rectVTSR 0x112233#24 ⟨0x0022#16, 0x0011#16⟩ ⟨0x02#8, 0x01#8, 0x1234#16⟩ ⟨0x7FFF#16, 0x8000#16⟩)),
    (draws [0x68112233#32, 0x00110022#32], (.rect1 0x112233#24 ⟨0x0022#16, 0x0011#16⟩)),
    (draws [0x69112233#32, 0x00110022#32], (.rect1R 0x112233#24 ⟨0x0022#16, 0x0011#16⟩)),
    (draws [0x6A112233#32, 0x00110022#32], (.rect1S 0x112233#24 ⟨0x0022#16, 0x0011#16⟩)),
    (draws [0x6B112233#32, 0x00110022#32], (.rect1SR 0x112233#24 ⟨0x0022#16, 0x0011#16⟩)),
    (draws [0x6C112233#32, 0x00110022#32, 0x12340102#32], (.rect1T 0x112233#24 ⟨0x0022#16, 0x0011#16⟩ ⟨0x02#8, 0x01#8, 0x1234#16⟩)),
    (draws [0x6D112233#32, 0x00110022#32, 0x12340102#32], (.rect1TR 0x112233#24 ⟨0x0022#16, 0x0011#16⟩ ⟨0x02#8, 0x01#8, 0x1234#16⟩)),
    (draws [0x6E112233#32, 0x00110022#32, 0x12340102#32], (.rect1TS 0x112233#24 ⟨0x0022#16, 0x0011#16⟩ ⟨0x02#8, 0x01#8, 0x1234#16⟩)),
    (draws [0x6F112233#32, 0x00110022#32, 0x12340102#32], (.rect1TSR 0x112233#24 ⟨0x0022#16, 0x0011#16⟩ ⟨0x02#8, 0x01#8, 0x1234#16⟩)),
    (draws [0x70112233#32, 0x00110022#32], (.rect8 0x112233#24 ⟨0x0022#16, 0x0011#16⟩)),
    (draws [0x71112233#32, 0x00110022#32], (.rect8R 0x112233#24 ⟨0x0022#16, 0x0011#16⟩)),
    (draws [0x72112233#32, 0x00110022#32], (.rect8S 0x112233#24 ⟨0x0022#16, 0x0011#16⟩)),
    (draws [0x73112233#32, 0x00110022#32], (.rect8SR 0x112233#24 ⟨0x0022#16, 0x0011#16⟩))].all reads = true := by decide

theorem test_decode_rectangles_2 :
  [
    (draws [0x74112233#32, 0x00110022#32, 0x12340102#32], (.rect8T 0x112233#24 ⟨0x0022#16, 0x0011#16⟩ ⟨0x02#8, 0x01#8, 0x1234#16⟩)),
    (draws [0x75112233#32, 0x00110022#32, 0x12340102#32], (.rect8TR 0x112233#24 ⟨0x0022#16, 0x0011#16⟩ ⟨0x02#8, 0x01#8, 0x1234#16⟩)),
    (draws [0x76112233#32, 0x00110022#32, 0x12340102#32], (.rect8TS 0x112233#24 ⟨0x0022#16, 0x0011#16⟩ ⟨0x02#8, 0x01#8, 0x1234#16⟩)),
    (draws [0x77112233#32, 0x00110022#32, 0x12340102#32], (.rect8TSR 0x112233#24 ⟨0x0022#16, 0x0011#16⟩ ⟨0x02#8, 0x01#8, 0x1234#16⟩)),
    (draws [0x78112233#32, 0x00110022#32], (.rect16 0x112233#24 ⟨0x0022#16, 0x0011#16⟩)),
    (draws [0x79112233#32, 0x00110022#32], (.rect16R 0x112233#24 ⟨0x0022#16, 0x0011#16⟩)),
    (draws [0x7A112233#32, 0x00110022#32], (.rect16S 0x112233#24 ⟨0x0022#16, 0x0011#16⟩)),
    (draws [0x7B112233#32, 0x00110022#32], (.rect16SR 0x112233#24 ⟨0x0022#16, 0x0011#16⟩)),
    (draws [0x7C112233#32, 0x00110022#32, 0x12340102#32], (.rect16T 0x112233#24 ⟨0x0022#16, 0x0011#16⟩ ⟨0x02#8, 0x01#8, 0x1234#16⟩)),
    (draws [0x7D112233#32, 0x00110022#32, 0x12340102#32], (.rect16TR 0x112233#24 ⟨0x0022#16, 0x0011#16⟩ ⟨0x02#8, 0x01#8, 0x1234#16⟩)),
    (draws [0x7E112233#32, 0x00110022#32, 0x12340102#32], (.rect16TS 0x112233#24 ⟨0x0022#16, 0x0011#16⟩ ⟨0x02#8, 0x01#8, 0x1234#16⟩)),
    (draws [0x7F112233#32, 0x00110022#32, 0x12340102#32], (.rect16TSR 0x112233#24 ⟨0x0022#16, 0x0011#16⟩ ⟨0x02#8, 0x01#8, 0x1234#16⟩))].all reads = true := by decide

theorem test_decode_unknown_words_1 :
  [
    (draws [0x03123456#32], (.unknown03 0x03123456#32)),
    (draws [0x04123456#32], (.unknown04_07 0x04123456#32)),
    (draws [0x08123456#32], (.unknown08_0F 0x08123456#32)),
    (draws [0x10123456#32], (.unknown10_17 0x10123456#32)),
    (draws [0x18123456#32], (.unknown18_1B 0x18123456#32)),
    (draws [0x1C123456#32], (.unknown1C_1D 0x1C123456#32)),
    (draws [0x1E123456#32], (.unknown1E 0x1E123456#32)),
    (draws [0x81123456#32], (.unknown81 0x81123456#32)),
    (draws [0x82123456#32], (.unknown82_83 0x82123456#32)),
    (draws [0x84123456#32], (.unknown84_87 0x84123456#32)),
    (draws [0x88123456#32], (.unknown88_8F 0x88123456#32)),
    (draws [0x90123456#32], (.unknown90_9F 0x90123456#32)),
    (draws [0xA1123456#32], (.unknownA1 0xA1123456#32)),
    (draws [0xA2123456#32], (.unknownA2_A3 0xA2123456#32)),
    (draws [0xA4123456#32], (.unknownA4_A7 0xA4123456#32)),
    (draws [0xA8123456#32], (.unknownA8_AF 0xA8123456#32)),
    (draws [0xB0123456#32], (.unknownB0_BF 0xB0123456#32)),
    (draws [0xC1123456#32], (.unknownC1 0xC1123456#32)),
    (draws [0xC2123456#32], (.unknownC2_C3 0xC2123456#32)),
    (draws [0xC4123456#32], (.unknownC4_C7 0xC4123456#32))].all reads = true := by decide

theorem test_decode_unknown_words_2 :
  [
    (draws [0xC8123456#32], (.unknownC8_CF 0xC8123456#32)),
    (draws [0xD0123456#32], (.unknownD0_DF 0xD0123456#32)),
    (draws [0xE0123456#32], (.unknownE0 0xE0123456#32)),
    (draws [0xE7123456#32], (.unknownE7 0xE7123456#32)),
    (draws [0xE8123456#32], (.unknownE8_EF 0xE8123456#32)),
    (draws [0xF0123456#32], (.unknownF0_FF 0xF0123456#32))].all reads = true := by decide

theorem test_decode_control_words_1 :
  [
    (control 0x40FFFFFF#32, .reset),
    (control 0x81123456#32, (.resetCmdbuf 0x81123456#32)),
    (control 0xC2FFFFFF#32, .ackIrq),
    (control 0x03000001#32, (.displayEnable true)),
    (control 0x04FFFFFE#32, (.dmaDirection 2#2)),
    (control 0xC5002C10#32, (.displayStart 16#10 11#9)),
    (control 0x06C60260#32, (.hRange 0x260#12 0xC60#12)),
    (control 0x07F40010#32, (.vRange 16#10 256#10)),
    (control 0x08800009#32, (.displayMode 0x800009#24)),
    (control 0x09FFFFFF#32, (.texDisableAllow true)),
    (control 0xCA123456#32, (.gp1Unrecognized0A 0xCA123456#32)),
    (control 0xCB123456#32, (.gp1Unrecognized0B 0xCB123456#32)),
    (control 0xCC123456#32, (.gp1Unrecognized0C 0xCC123456#32)),
    (control 0xCD123456#32, (.gp1Unrecognized0D 0xCD123456#32)),
    (control 0xCE123456#32, (.gp1Unrecognized0E 0xCE123456#32)),
    (control 0xCF123456#32, (.gp1Unrecognized0F 0xCF123456#32)),
    (control 0x1F123450#32, .getInfoNone0),
    (control 0x1F123451#32, .getInfoNone1),
    (control 0x1F123452#32, .getInfoTexWindow),
    (control 0x1F123453#32, .getInfoClipTl)].all reads = true := by decide

theorem test_decode_control_words_2 :
  [
    (control 0x1F123454#32, .getInfoClipBr),
    (control 0x1F123455#32, .getInfoOffset),
    (control 0x1F123456#32, .getInfoNone6),
    (control 0x1F123457#32, .getInfoVersion),
    (control 0x1F123458#32, .getInfoZero),
    (control 0x1F123459#32, .getInfoNone9),
    (control 0x1F12345A#32, .getInfoNoneA),
    (control 0x1F12345B#32, .getInfoNoneB),
    (control 0x1F12345C#32, .getInfoNoneC),
    (control 0x1F12345D#32, .getInfoNoneD),
    (control 0x1F12345E#32, .getInfoNoneE),
    (control 0x1F12345F#32, .getInfoNoneF),
    (control 0xE0123456#32, (.gp1Unrecognized20_3F 0xE0123456#32))].all reads = true := by decide

theorem test_decode_transactions :
  [
    ([.read 0 .word], .readData),
    ([.read 4 .word], .readStatus),
    ([.elapse 3413], .step 3413),
    ([.backend (-1) 511 0x8001#16 true false], .backendWrite (-1) 511 0x8001#16 true false)].all reads = true := by decide

/-! ## The encoder, and decoding that is refused by name -/

theorem test_encode_setClipBr : encode (.setClipBr 0x13F#10 0x0F0#10) = draws [0xE403C13F#32] := by decide

theorem test_encode_polyline :
    encode (.plineF 0x123456#24 [0x00000000#32, 0x55555555#32])
      = draws [0x48123456#32, 0x00000000#32, 0x55555555#32] := by decide

theorem test_decode_refuses_two_arguments_of_a_triangle :
    decode (draws [0x20000000#32, 0#32, 0#32]) = .error (.wrongArgumentCount 0x20#8 2) := by decide

theorem test_decode_refuses_a_polyline_of_17_words :
    decode (draws (0x48000000#32 :: List.replicate 17 0#32)) = .error (.wrongArgumentCount 0x48#8 17) := by decide

theorem test_decode_refuses_nothing_and_byte_writes :
    decode [] = .error .empty ∧ decode [.write 0 .byte 0#32] = .error .notOneInstruction
      ∧ decode (control 0#32 ++ control 0#32) = .error .notOneInstruction := by decide

/-- The counts of 95_test_vectors D1, D4, D6 to D11, and the longest command. -/
theorem test_argument_counts :
    [0x02#8, 0x3C#8, 0x48#8, 0x64#8, 0x7C#8, 0x68#8, 0x80#8, 0xA0#8, 0xC0#8, 0x50#8, 0x40#8, 0x03#8].map argCount
      = [2, 11, 16, 3, 2, 1, 3, 2, 2, 3, 2, 0] := by decide

/-! ## Ill-formed terms are refused -/

theorem test_wellFormed_refuses_empty_polylines :
    [Instr.plineF 0#24 [], .plineF49 0#24 [], .plineFS 0#24 [], .plineFS4B 0#24 [], .plineF4C 0#24 [],
      .plineF4D 0#24 [], .plineFS4E 0#24 [], .plineFS4F 0#24 [], .plineG 0#24 [], .plineG59 0#24 [], .plineGS 0#24 [],
      .plineGS5B 0#24 [], .plineG5C 0#24 [], .plineG5D 0#24 [], .plineGS5E 0#24 [], .plineGS5F 0#24 []].any
      Instr.wellFormed = false := by decide

theorem test_wellFormed_refuses_polylines_of_17_words :
    let long := List.replicate 17 0#32
    [Instr.plineF 0#24 long, .plineF49 0#24 long, .plineFS 0#24 long, .plineFS4B 0#24 long, .plineF4C 0#24 long,
      .plineF4D 0#24 long, .plineFS4E 0#24 long, .plineFS4F 0#24 long, .plineG 0#24 long, .plineG59 0#24 long,
      .plineGS 0#24 long, .plineGS5B 0#24 long, .plineG5C 0#24 long, .plineG5D 0#24 long, .plineGS5E 0#24 long,
      .plineGS5F 0#24 long].any Instr.wellFormed = false := by decide

/-- Each row's constructor with a word whose opcode is next to the row. -/
theorem test_wellFormed_refuses_words_of_other_rows :
    [Instr.unknown03 0x02000000#32, .unknown04_07 0x08000000#32, .unknown08_0F 0x10000000#32,
      .unknown10_17 0x18000000#32, .unknown18_1B 0x1C000000#32, .unknown1C_1D 0x1E000000#32, .unknown1E 0x1F000000#32,
      .unknown81 0x80000000#32, .unknown82_83 0x84000000#32, .unknown84_87 0x83000000#32, .unknown88_8F 0x90000000#32,
      .unknown90_9F 0xA0000000#32, .unknownA1 0xA0000000#32, .unknownA2_A3 0xA4000000#32, .unknownA4_A7 0xA8000000#32,
      .unknownA8_AF 0xB0000000#32, .unknownB0_BF 0xC0000000#32, .unknownC1 0xC0000000#32, .unknownC2_C3 0xC4000000#32,
      .unknownC4_C7 0xC8000000#32, .unknownC8_CF 0xD0000000#32, .unknownD0_DF 0xE0000000#32, .unknownE0 0xE1000000#32,
      .unknownE7 0xE6000000#32, .unknownE8_EF 0xE7000000#32, .unknownF0_FF 0xEF000000#32, .resetCmdbuf 0x02000000#32,
      .gp1Unrecognized0A 0x09000000#32, .gp1Unrecognized0B 0x0A000000#32, .gp1Unrecognized0C 0x0D000000#32,
      .gp1Unrecognized0D 0x0C000000#32, .gp1Unrecognized0E 0x0F000000#32, .gp1Unrecognized0F 0x10000000#32,
      .gp1Unrecognized20_3F 0x1F000000#32].any Instr.wellFormed = false := by decide

/-! ## One step, from 95_test_vectors -/

/-- Parameters without a free value. -/
def params : Config.Params := { defaultParams with vblankStartPal := 256, readPad := 0x0BAD#16 }

/-- The power-on state under those parameters, with every cell of VRAM 0. -/
def base : State := { State.reset with cfg := params, vram := [] }

/-- One transaction pending. -/
def issue (t : Transaction) (s : State) : State := { s with pending := [t] }

/-- A draw command all but whose last word has been taken in. -/
def ready (word : Word) (args : List Word) (s : State) : State :=
  match kindOf (opOf word), args.getLast? with
  | some k, some last => issue (.write 0 .word last) { s with dec := decoderAwaitingLast word k args }
  | _, _ => issue (.write 0 .word word) s

/-- What one step leaves, seen through `view`. -/
def after {α : Type} (view : State → α) (s : State) : Option α :=
  match step s with
  | .next t => some (view t)
  | .fault _ => none
  | .refused _ => none

/-- Positions and colours of the emissions. -/
def drawn (s : State) : List (List (Int × Int × Nat)) :=
  let show1 (v : Vertex) := (v.x, v.y, v.color.r.toNat * 65536 + v.color.g.toNat * 256 + v.color.b.toNat)
  s.emissions.map fun e =>
    match e with
    | .triangle a b c => [show1 a, show1 b, show1 c]
    | .lineSegment a b => [show1 a, show1 b]
    | .rectQuad q => [(q.x, q.y, q.color.r.toNat * 65536 + q.color.g.toNat * 256 + q.color.b.toNat), (q.w, q.h, 0)]

/-- The rectangles emitted. -/
def quads (s : State) : List RectQuad :=
  s.emissions.filterMap fun e =>
    match e with
    | .rectQuad q => some q
    | .triangle _ _ _ => none
    | .lineSegment _ _ => none

/-- Registers set for a test. -/
def withBank (f : RegisterBank → RegisterBank) (s : State) : State := { s with bank := f s.bank }

/-- D1: a fill's command word. -/
theorem test_fill_command_word_arms_decoder :
    after (fun s => (s.dec.state, s.dec.kind, s.dec.argExpected, s.dec.argLen, s.vram.length))
      (issue (.write 0 .word 0x02000000#32) base) = some (.accum, .fill, 2, 0, 0) := by decide

/-- F2: 16 cells white. -/
theorem test_fill_aligns_and_rounds :
    after (fun s => (s.vram.length, s.vram.fbRead 0#10 0#9, s.vram.fbRead 15#10 0#9, s.dec.state, s.dec.cmdWord))
      (ready 0x02FFFFFF#32 [0x0000000F#32, 0x00010001#32] base) = some (32, 0x7FFF#16, 0x7FFF#16, .idle, 0#32) := by decide

/-- F5, in white: clipped at column 1023 and row 511, not wrapped. -/
theorem test_fill_clips :
    after (fun s => (s.vram.length, s.vram.fbRead 1008#10 511#9, s.vram.fbRead 1023#10 511#9, s.vram.fbRead 0#10 511#9))
      (ready 0x02FFFFFF#32 [0x01FF03F0#32, 0x00100020#32] base) = some (32, 0x7FFF#16, 0x7FFF#16, 0#16) := by decide

/-- G1: a flat triangle under offset (10, 20). -/
theorem test_flat_triangle_with_offset :
    after drawn (ready 0x200000FF#32 [0x00000000#32, 0x00000010#32, 0x00100000#32]
      (withBank (fun b => { b with offX := 10#11, offY := 20#11 }) base))
      = some [[(10, 20, 0xFF0000), (26, 20, 0xFF0000), (10, 36, 0xFF0000)]] := by decide

/-- G2: a gouraud textured semi-transparent quad: both triangles, and every field of one vertex. -/
theorem test_gouraud_textured_quad :
    after (fun s => (drawn s, s.emissions.head?.map fun e =>
        match e with
        | .triangle _ v _ => some v
        | .lineSegment _ _ => none
        | .rectQuad _ => none))
      (ready 0x3E808080#32
        [0x00000000#32, 0x78010000#32, 0x00FF0000#32, 0x00000040#32, 0x0105403F#32, 0x0000FF00#32, 0x00400000#32,
          0x00003F00#32, 0x000000FF#32, 0x00400040#32, 0x00003F3F#32]
        (withBank (fun b => { b with drawMode := 0x200#24, setMask := true, texWindow := 0x421#24 }) base))
      = some ([[(0, 0, 0x808080), (64, 0, 0x0000FF), (0, 64, 0x00FF00)],
          [(64, 0, 0x0000FF), (0, 64, 0x00FF00), (64, 64, 0xFF0000)]],
        some (some ⟨64, 0, ⟨0#8, 0#8, 0xFF#8⟩, 0x3F#8, 0x40#8, ⟨0x7801#16, 0x0105#16, .bits16⟩, ⟨true, false, true, true⟩,
          ⟨0x421#24, true, false⟩⟩)) := by decide

/-- P1, P2: single lines; a terminator value is a vertex here. -/
theorem test_single_lines :
    after drawn (ready 0x4000FF00#32 [0x00000000#32, 0x000A0014#32] base)
        = some [[(0, 0, 0x00FF00), (20, 10, 0x00FF00)]]
      ∧ after drawn (ready 0x520000FF#32 [0x55555555#32, 0x00FF0000#32, 0x50005000#32] base)
        = some [[(341, 341, 0xFF0000), (0, 0, 0x0000FF)]] := by decide

/-- P4, P6: a flat polyline, and one vertex that makes no segment. -/
theorem test_flat_polyline :
    after (fun s => (drawn s, s.dec.state))
        (ready 0x48FFFFFF#32 [0x00000000#32, 0x00000010#32, 0x00100010#32, 0x00100000#32, 0x55555555#32] base)
        = some ([[(0, 0, 0xFFFFFF), (16, 0, 0xFFFFFF)], [(16, 0, 0xFFFFFF), (16, 16, 0xFFFFFF)],
          [(16, 16, 0xFFFFFF), (0, 16, 0xFFFFFF)]], .idle)
      ∧ after (fun s => (drawn s, s.dec.state)) (ready 0x48FFFFFF#32 [0x00010001#32, 0x55555555#32] base)
        = some ([], .idle) := by
  refine ⟨?_, ?_⟩ <;> decide

/-- P8, P10: a gouraud polyline, and a dangling colour dropped. -/
theorem test_gouraud_polyline :
    after drawn (ready 0x58FF0000#32
        [0x00000000#32, 0x0000FF00#32, 0x00000010#32, 0x000000FF#32, 0x00100010#32, 0x55555555#32] base)
        = some [[(0, 0, 0x0000FF), (16, 0, 0x00FF00)], [(16, 0, 0x00FF00), (16, 16, 0xFF0000)]]
      ∧ after drawn (ready 0x58FF0000#32
        [0x00000000#32, 0x0000FF00#32, 0x00000010#32, 0x000000FF#32, 0x55555555#32] base)
        = some [[(0, 0, 0x0000FF), (16, 0, 0x00FF00)]] := by decide

/-- Q1, Q2, Q4: rectangles with the offset, with negative sizes, of a fixed size. -/
theorem test_rectangles :
    after drawn (ready 0x60FF0000#32 [0x000A0014#32, 0x00200040#32]
        (withBank (fun b => { b with offX := 5#11, offY := 7#11 }) base)) = some [[(25, 17, 0x0000FF), (64, 32, 0)]]
      ∧ after drawn (ready 0x60FF0000#32 [0x000A0014#32, 0x03FF03FE#32] base) = some [[(20, 10, 0x0000FF), (-2, -1, 0)]]
      ∧ after drawn (ready 0x6A123456#32 [0x01FF03FF#32] base) = some [[(-1, 511, 0x563412), (1, 1, 0)]] := by
  refine ⟨?_, ?_, ?_⟩ <;> decide

/-- Q3, Q5, Q7: texture fields and flags of rectangles; the dither bit is not taken. -/
theorem test_rectangle_texture :
    after quads (ready 0x67808080#32 [0x00000000#32, 0x3FC01020#32, 0x00100020#32]
        (withBank (fun b => { b with drawMode := 0x85#24, checkMask := true, texWindow := 0xC63#24 }) base))
        = some [⟨0, 0, 32, 16, ⟨0x80#8, 0x80#8, 0x80#8⟩, 0x20#8, 0x10#8, ⟨0x3FC0#16, 0x0085#16, .bits8⟩,
          ⟨true, true, false, false⟩, ⟨0xC63#24, false, true⟩⟩]
      ∧ after quads (ready 0x7C808080#32 [0x00080008#32, 0x7FFF8040#32]
        (withBank (fun b => { b with drawMode := 0x185#24 }) base))
        = some [⟨8, 8, 16, 16, ⟨0x80#8, 0x80#8, 0x80#8⟩, 0x40#8, 0x80#8, ⟨0x7FFF#16, 0x0185#16, .bits16⟩,
          ⟨false, false, false, false⟩, ⟨0#24, false, false⟩⟩]
      ∧ after quads (ready 0x68FFFFFF#32 [0x00000000#32] (withBank (fun b => { b with drawMode := 0x200#24 }) base))
        = some [⟨0, 0, 1, 1, ⟨0xFF#8, 0xFF#8, 0xFF#8⟩, 0#8, 0#8, ⟨0#16, 0#16, .untextured⟩,
          ⟨false, false, false, false⟩, ⟨0#24, false, false⟩⟩] := by decide

/-- T2, T3, T5, T10. -/
theorem test_colour_conversion :
    [0xFFFFFF#24, 0x070707#24, 0xFF8040#24, 0x123456#24].map to15 = [0x7FFF#16, 0x0000#16, 0x7E08#16, 0x08CA#16] := by decide

/-- X1, X4, X6, X7. -/
theorem test_coordinates :
    let s := withBank (fun b => { b with offX := 0x010#11, offY := 0x7FF#11 }) base
    let far := withBank (fun b => { b with offX := 0x400#11, offY := 0x400#11 }) base
    (coordX s ⟨0x0200#16, 0x03FF#16⟩, coordY s ⟨0x0200#16, 0x03FF#16⟩) = (-496, -2)
      ∧ (coordX s ⟨0x0200#16, 0x0200#16⟩, coordY s ⟨0x0200#16, 0x0200#16⟩) = (-496, -513)
      ∧ (coordX s ⟨0x0400#16, 0x0400#16⟩, coordY s ⟨0x0400#16, 0x0400#16⟩) = (16, -1)
      ∧ (coordX far ⟨0x0200#16, 0x0200#16⟩, coordY far ⟨0x0200#16, 0x0200#16⟩) = (-1536, -1536) := by decide

/-- I3, I5, I8, I10, I12: single words at an idle decoder, and the status word after them. -/
theorem test_single_word_commands :
    after statusWord (issue (.write 0 .word 0x1F000000#32) base) = some 0x1D802000#32
      ∧ after statusWord (issue (.write 0 .word 0xE1FFFFFF#32) base) = some 0x1C80A7FF#32
      ∧ after (fun s => (s.bank.clipLeft, s.bank.clipTop)) (issue (.write 0 .word 0xE3FFFFFF#32) base)
        = some (1023#10, 1023#10)
      ∧ after (fun s => (s.bank.offX, s.bank.offY)) (issue (.write 0 .word 0xE5DFFC00#32) base) = some (0x400#11, 0x3FF#11)
      ∧ after (fun s => (s.bank.setMask, s.bank.checkMask)) (issue (.write 0 .word 0xE6FFFFFC#32) base)
        = some (false, false) := by decide

/-- I13: unknown words are logged whole. -/
theorem test_unknown_words_are_logged :
    [0x03000000#32, 0x1E123456#32, 0x81000000#32, 0xFF000000#32].map
        (fun w => after (fun s => s.diags) (issue (.write 0 .word w) base))
      = [0x03000000#32, 0x1E123456#32, 0x81000000#32, 0xFF000000#32].map
        fun w => some [.diag .unknownGp0Opcode w] := by decide

/-- A framebuffer holding some cells of row 0 from column 0 on. -/
def row0 (vs : List Half) (s : State) : State :=
  { s with vram := (vs.zipIdx).foldl (fun m p => m.fbWrite (BitVec.ofNat 10 p.2) 0#9 p.1) s.vram }

/-- V11, V12: an overlapping copy, and one under both mask controls. -/
theorem test_overlapping_copies :
    let cells (s : State) := [0#10, 1#10, 2#10, 3#10].map fun x => s.vram.fbRead x 0#9
    after cells (ready 0x80000000#32 [0x00000000#32, 0x00000001#32, 0x00010003#32]
        (row0 [1#16, 2#16, 3#16, 4#16] base)) = some [1#16, 1#16, 1#16, 1#16]
      ∧ after cells (ready 0x80000000#32 [0x00000000#32, 0x00000001#32, 0x00010002#32]
        (withBank (fun b => { b with setMask := true, checkMask := true })
          (row0 [0x0001#16, 0x0002#16, 0x8003#16, 0x8004#16] base)))
        = some [0x0001#16, 0x8001#16, 0x8003#16, 0x8004#16] := by decide

/-- V9: the bounds abort, after the reserved-field event. -/
theorem test_copy_bounds_abort :
    after (fun s => (s.diags, s.vram, s.dec.state, s.fault))
        (ready 0x80FFFFFF#32 [0x00000000#32, 0x00100010#32, 0xFFFFFFFF#32] base)
      = some ([.diag .reservedFieldNonZero 0x80FFFFFF#32, .diag .copyBoundsAbort 0xFFFFFFFF#32], [], .idle, false) := by
  decide

/-- V1: the header of an upload across both edges; a size field of 0 is the full span (V10). -/
theorem test_upload_headers :
    after (fun s => (s.wr, s.dec.state)) (ready 0xA0000000#32 [0x01FF03FE#32, 0x00020003#32] base)
        = some (⟨1022#10, 511#9, 3, 2, 0, 0⟩, .transfer)
      ∧ after (fun s => s.wr) (ready 0xA0000000#32 [0x00000000#32, 0x00000000#32] base)
        = some ⟨0#10, 0#9, 1024, 512, 0, 0⟩ := by decide

/-- A transfer under way, of `w` by `h` cells at (1022, 511). -/
def uploading (w h cx cy : Nat) (s : State) : State :=
  { s with dec := { s.dec with state := .transfer }, wr := ⟨1022#10, 511#9, w, h, cx, cy⟩ }

/-- V1, V2: data words across the right edge, and a last word with a half to spare. -/
theorem test_data_words :
    after (fun s => (s.vram.fbRead 0#10 511#9, s.vram.fbRead 1022#10 0#9, s.wr.cx, s.wr.cy, s.dec.state))
        (issue (.write 0 .word 0x00040003#32) (uploading 3 2 2 0 base)) = some (3#16, 4#16, 1, 1, .transfer)
      ∧ after (fun s => (s.vram.fbRead 0#10 511#9, s.vram.fbRead 1022#10 0#9, s.dec.state))
        (issue (.write 0 .word 0xDDDDCCCC#32) (uploading 3 1 2 0 base)) = some (0xCCCC#16, 0#16, .idle) := by decide

/-- V4, V5: bit 15 forced to 1, and a masked cell kept while the cursor goes on. -/
theorem test_data_words_under_mask_controls :
    after (fun s => (s.vram.fbRead 0#10 0#9, s.vram.fbRead 1#10 0#9))
        (issue (.write 0 .word 0x80001234#32)
          (withBank (fun b => { b with setMask := true }) { uploading 2 1 0 0 base with wr := ⟨0#10, 0#9, 2, 1, 0, 0⟩ }))
        = some (0x9234#16, 0x8000#16)
      ∧ after (fun s => (s.vram.fbRead 0#10 0#9, s.vram.fbRead 1#10 0#9, s.dec.state))
        (issue (.write 0 .word 0x7FFF7FFF#32) (withBank (fun b => { b with checkMask := true })
          (row0 [0x8002#16, 0x0001#16] { uploading 2 1 0 0 base with wr := ⟨0#10, 0#9, 2, 1, 0, 0⟩ })))
        = some (0x8002#16, 0x7FFF#16, .idle) := by decide

/-- V1, V2: the header of a read-back, a full word, and a last word whose upper half is `READ_PAD`. -/
theorem test_read_back :
    after (fun s => (s.rd, s.readMode, s.dec.state)) (ready 0xC0000000#32 [0x01FF03FE#32, 0x00020003#32] base)
        = some (⟨1022#10, 511#9, 3, 2, 0, 0⟩, .vramTransfer, .idle)
      ∧ after (fun s => (s.results, s.readLatch, s.readMode, s.rd.cx)) (issue (.read 0 .word)
        { row0 [1#16, 2#16, 3#16] base with readMode := .vramTransfer, rd := ⟨0#10, 0#9, 3, 1, 0, 0⟩ })
        = some ([.data 0x00020001#32], 0x00020001#32, .vramTransfer, 2)
      ∧ after (fun s => (s.results, s.readMode)) (issue (.read 0 .word)
        { row0 [1#16, 2#16, 3#16] base with readMode := .vramTransfer, rd := ⟨0#10, 0#9, 3, 1, 2, 0⟩ })
        = some ([.data 0x0BAD0003#32], .normal) := by decide

/-- C1: the fields of the control-port registers. -/
theorem test_control_registers :
    after (fun s => (s.bank.dispStartX, s.bank.dispStartY)) (issue (.write 4 .word 0x05002C10#32) base)
        = some (16#10, 11#9)
      ∧ after (fun s => (s.bank.hrangeX1, s.bank.hrangeX2)) (issue (.write 4 .word 0x06C60260#32) base)
        = some (0x260#12, 0xC60#12)
      ∧ after (fun s => (s.bank.vrangeY1, s.bank.vrangeY2)) (issue (.write 4 .word 0x07040010#32) base)
        = some (16#10, 256#10)
      ∧ after (fun s => s.bank.texDisableAllowed) (issue (.write 4 .word 0x09000001#32) base) = some true := by decide

/-- C6, S10, S13: the status word after a control command. -/
theorem test_status_after_control_commands :
    [0x03000000#32, 0x03000001#32, 0x080000FF#32, 0x04000003#32].map
        (fun w => after statusWord (issue (.write 4 .word w) base))
      = [some 0x1C002000#32, some 0x1C802000#32, some 0x1CFF6000#32, some 0x7E802000#32] := by decide

/-- S14: the status word in the middle of an upload, by DMA direction. -/
theorem test_status_in_transfer :
    [0#2, 1#2, 2#2, 3#2].map
        (fun d => statusWord (withBank (fun b => { b with dmaDir := d }) (uploading 2 1 0 0 base)))
      = [0x14802000#32, 0x36802000#32, 0x56802000#32, 0x74802000#32] := by decide

/-- C5: `RESET` and `ACK_IRQ` whatever the two top bits. -/
theorem test_reset_and_acknowledge :
    let s := withBank (fun b => { b with irqLatch := true, setMask := true, checkMask := true }) base
    [0x40000000#32, 0x80000000#32, 0xC0000000#32, 0x42000000#32].map
        (fun w => after statusWord (issue (.write 4 .word w) s))
      = [some 0x1C802000#32, some 0x1C802000#32, some 0x1C802000#32, some 0x1C803800#32] := by decide

/-- C3: the three behaviours of `RESET_CMDBUF` while a quad accumulates. -/
theorem test_reset_cmdbuf :
    let s := { base with dec := { base.dec with state := .accum, kind := .polygon, cmdWord := 0x28000000#32, argExpected := 4 } }
    let under (b : Config.CommandBufferReset) := { s with cfg := { params with commandBufferReset := b } }
    [Config.CommandBufferReset.clear, .noop, .fatal].map
        (fun b => after (fun s => (s.dec.state, s.fault)) (issue (.write 4 .word 0x01000000#32) (under b)))
      = [some (.idle, false), some (.accum, false), some (.accum, true)] := by decide

/-- C4: each unrecognized word sets `fault`, and then every transaction is refused. -/
theorem test_unrecognized_words :
    [0x0A000000#32, 0x20000000#32, 0xCA000000#32, 0x3F000000#32, 0x0F123456#32].map
        (fun w => after (fun s => s.fault) (issue (.write 4 .word w) base)) = List.replicate 5 (some true)
      ∧ after (fun s => s.fault) (issue (.read 4 .word) { base with fault := true }) = none := by decide

/-- N1 to N9, one query each. -/
theorem test_info_queries :
    let s := withBank (fun b => { b with
      texWindow := 0x012345#24, clipLeft := 0x010#10, clipTop := 0x010#10, clipRight := 0x13F#10, clipBottom := 0x0F0#10
      offX := 0x010#11, offY := 0x7FF#11 }) { base with readLatch := 7#32 }
    [0x10000002#32, 0x10000003#32, 0x10000004#32, 0x10000005#32, 0x10000007#32, 0x10000008#32, 0x10000000#32, 0x1F000003#32,
        0x10FFFFF5#32, 0x10000006#32].map
        (fun w => after (fun s => (s.readLatch, s.readMode)) (issue (.write 4 .word w) s))
      = [0x00012345#32, 0x00004010#32, 0x0003C13F#32, 0x003FF810#32, 2#32, 0#32, 7#32, 0x00004010#32, 0x003FF810#32,
        7#32].map fun l => some (l, .infoQuery) := by decide

/-- S1: what `ReadStatus` returns at power-on. -/
theorem test_read_status : after (fun s => s.results) (issue (.read 4 .word) base) = some [.status 0x1C802000#32] := by
  decide

/-- M2, M3, M4, M5, M11: the timing state after one `Step`. -/
theorem test_time_steps :
    let at0 (dot line frame : Nat) : State := { base with timing := ⟨dot, line, BitVec.ofNat 32 frame, false⟩ }
    after (fun s => (s.timing, s.results)) (issue (.elapse 6826) (at0 0 262 0))
        = some (⟨0, 0, 1#32, false⟩, [.frameComplete true])
      ∧ after (fun s => (s.timing, s.results)) (issue (.elapse 2047800) (at0 0 0 0))
        = some (⟨0, 0, 1#32, false⟩, [.frameComplete true])
      ∧ after (fun s => (s.timing, s.results)) (issue (.elapse 1) (at0 3412 0 0))
        = some (⟨0, 1, 0#32, true⟩, [.frameComplete false])
      ∧ after (fun s => s.timing) (issue (.elapse 6831) (at0 0 0 0)) = some ⟨5, 2, 0#32, false⟩
      ∧ after (fun s => s.timing.frame) (issue (.elapse 3413) (at0 0 262 0xFFFFFFFF)) = some 0#32 := by decide

/-- M7, M8, M9: parity from the frame counter, the PAL blanking line, and a change of standard. -/
theorem test_time_steps_by_display_mode :
    let at0 (mode : BitVec 24) (line frame : Nat) : State :=
      withBank (fun b => { b with dispMode := mode }) { base with timing := ⟨0, line, BitVec.ofNat 32 frame, false⟩ }
    after (fun s => s.timing.odd) (issue (.elapse 3413) (at0 4#24 241 1)) = some true
      ∧ after (fun s => s.timing.odd) (issue (.elapse 3413) (at0 4#24 242 1)) = some false
      ∧ after (fun s => s.timing.odd) (issue (.elapse 3413) (at0 8#24 254 0)) = some true
      ∧ after (fun s => s.timing.odd) (issue (.elapse 3413) (at0 8#24 255 0)) = some false
      ∧ after (fun s => (s.timing.line, s.results)) (issue (.elapse 0) (at0 0#24 300 0))
        = some (0, [.frameComplete true]) := by decide

/-- 20_memory R73: a masked write inside the grid, and none outside it. -/
theorem test_backend_writes :
    after (fun s => s.vram.fbRead 1023#10 511#9) (issue (.backend 1023 511 0x1234#16 true false) base) = some 0x9234#16
      ∧ after (fun s => s.vram) (issue (.backend 1024 0 0x1234#16 true false) base) = some []
      ∧ after (fun s => s.vram) (issue (.backend 0 (-1) 0x1234#16 true false) base) = some [] := by decide

/-- 20_memory R63: a byte write and a write at offset 8 are refused. -/
theorem test_other_accesses_are_refused :
    after (fun s => s.fault) (issue (.write 0 .byte 0#32) base) = none
      ∧ after (fun s => s.fault) (issue (.write 8 .word 0#32) base) = none := by decide

/-- A table number is placed as the next instruction. -/
theorem test_table_words_run :
    decodeTableWord 32 0xE6000003 = some (.setMask true true)
      ∧ after (fun s => s.bank.checkMask) (base.withFetchWord 32 0xE6000003) = some true
      ∧ decodeTableWord 32 0x20000000 = some (.polyF3 0#24 ⟨0#16, 0#16⟩ ⟨0#16, 0#16⟩ ⟨0#16, 0#16⟩)
      ∧ after drawn (base.withFetchWord 32 0x20000000) = some [[(0, 0, 0), (0, 0, 0), (0, 0, 0)]] := by decide

/-! ## Witnesses: states and operands that meet the hypotheses of each statement, at the boundaries of its clauses -/

theorem base_inv : base.Inv where
  vram := rfl
  dec := rfl
  wr := fun h => nomatch h
  rd := fun h => nomatch h
  cfg := by decide
  dot := by decide
  line := by decide

theorem inv_issue {s : State} (t : Transaction) (h : s.Inv) : (issue t s).Inv :=
  ⟨h.vram, h.dec, h.wr, h.rd, h.cfg, h.dot, h.line⟩

theorem uploading_inv {w h cx cy : Nat} (hc : 1 ≤ w ∧ w ≤ 1024 ∧ 1 ≤ h ∧ h ≤ 512 ∧ cx < w ∧ cy < h) :
    (uploading w h cx cy base).Inv where
  vram := rfl
  dec := rfl
  wr := fun _ => hc
  rd := fun h => nomatch h
  cfg := base_inv.cfg
  dot := base_inv.dot
  line := base_inv.line

/-- A read-back under way, of `w` by `h` cells at (1022, 511). -/
def downloading (w h cx cy : Nat) (s : State) : State :=
  { s with readMode := .vramTransfer, rd := ⟨1022#10, 511#9, w, h, cx, cy⟩ }

theorem downloading_inv {w h cx cy : Nat} (hc : 1 ≤ w ∧ w ≤ 1024 ∧ 1 ≤ h ∧ h ≤ 512 ∧ cx < w ∧ cy < h) :
    (downloading w h cx cy base).Inv where
  vram := rfl
  dec := rfl
  wr := fun h => nomatch h
  rd := fun _ => hc
  cfg := base_inv.cfg
  dot := base_inv.dot
  line := base_inv.line

/-- The base state under another `GP1_01_BEHAVIOUR`. -/
def baseUnder (b : Config.CommandBufferReset) : State := { base with cfg := { params with commandBufferReset := b } }

/-- The decoder in the middle of a command. -/
def accumulating (kind : DecKind) (word : Word) (len : Nat) (s : State) : State :=
  { s with dec := ⟨.accum, kind, word, Vector.replicate 16 0#32, len, argCount (opOf word)⟩ }

/-- The one case of the sticky clause of PowerOnStateIsZero: a fatal state with nothing pending. -/
theorem test_witness_PowerOnStateIsZero :
    ∃ t, step { State.reset with fault := true } = .next t ∧ ({ State.reset with fault := true } : State).fault = true :=
  ⟨_, rfl, rfl⟩

/-- The words of ControlResetClearsRegisters and NopAndClearCacheDoNothing, ignored bits set. -/
theorem test_witness_reset_and_nop_words :
    base.fault = false ∧ base.dec.state = .idle
      ∧ (issue (.write 4 .word (3#2 ++ (0x00#6 ++ 0xFFFFFF#24))) base).pending = [.write 4 .word 0xC0FFFFFF#32]
      ∧ (issue (.write 0 .word (0x00#8 ++ 0xFFFFFF#24)) base).pending = [.write 0 .word 0x00FFFFFF#32]
      ∧ (issue (.write 0 .word (0x01#8 ++ 0#24)) base).pending = [.write 0 .word 0x01000000#32] := by decide

/-- For ResetStatusWord, at both field parities, and for ControlResetClearsRegisters, with the latch set. -/
theorem test_witness_ResetStatusWord :
    base.fault = false ∧ ({ base with timing := ⟨0, 1, 0#32, true⟩ } : State).fault = false
      ∧ (withBank (fun b => { b with irqLatch := true }) base).fault = false := by decide

theorem test_witness_CommandBufferResetBehaviours :
    (baseUnder .clear).fault = false ∧ (baseUnder .clear).cfg.commandBufferReset = .clear
      ∧ (baseUnder .noop).fault = false ∧ (baseUnder .noop).cfg.commandBufferReset = .noop
      ∧ (baseUnder .fatal).fault = false ∧ (baseUnder .fatal).cfg.commandBufferReset = .fatal := by decide

theorem test_witness_DecodeOfEncode :
    [Instr.plineF 0#24 [0#32], .plineGS5F 0#24 (List.replicate 16 0#32), .unknownF0_FF 0xFF000000#32,
      .resetCmdbuf 0x81123456#32, .backendWrite (-1) 512 0#16 true true].all Instr.wellFormed = true := by decide

theorem test_witness_DecodedInstructionsAreWellFormed :
    decode (draws [0x48000000#32, 0x55555555#32]) = .ok (.plineF 0#24 [0x55555555#32])
      ∧ decode (draws [0xFF123456#32]) = .ok (.unknownF0_FF 0xFF123456#32) := by decide

/-- Both sides of DrawCommandLengths at the bounds of a polyline, and for a single word. -/
theorem test_witness_DrawCommandLengths :
    decode (draws [0x48000000#32, 0#32]) = .ok (.plineF 0#24 [0#32])
      ∧ decode (draws (0x58000000#32 :: List.replicate 16 0#32)) = .ok (.plineG 0#24 (List.replicate 16 0#32))
      ∧ decode (draws [0x48000000#32]) = .error (.wrongArgumentCount 0x48#8 0)
      ∧ decode (draws [0x00000000#32, 0#32]) = .error (.wrongArgumentCount 0x00#8 1) := by decide

/-- The ends of the opcode ranges of ArgumentCounts. -/
theorem test_witness_ArgumentCounts :
    [0x02#8, 0x20#8, 0x3F#8, 0x40#8, 0x5F#8, 0x60#8, 0x7F#8, 0x80#8, 0xA0#8, 0xC0#8].map kindOf
      = [DecKind.fill, .polygon, .polygon, .line, .line, .rect, .rect, .copyVramVram, .copyCpuVram, .copyVramCpu].map
        some ∧ [0x01#8, 0x03#8, 0x1F#8, 0x81#8, 0x9F#8, 0xC1#8, 0xFF#8].map kindOf = List.replicate 7 none := by decide

/-- Single transactions; and the last argument of a rectangle, and a terminator that is a polyline's first argument. -/
theorem test_witness_StepRunsDecodedInstruction :
    (base.fault = false ∧ base.dec.state = .idle ∧ decode [.write 0 .word 0xE6000003#32] = .ok (.setMask true true))
      ∧ decode [.read 4 .word] = .ok .readStatus
      ∧ (let s := accumulating .rect 0x68123456#32 0 base
        s.dec.state = .accum ∧ kindOf (opOf s.dec.cmdWord) = some s.dec.kind ∧ s.dec.argLen + 1 = s.dec.argExpected
          ∧ decode (draws (s.dec.cmdWord :: (s.dec.argBuf.toList.take s.dec.argLen ++ [0x00020001#32])))
            = .ok (.rect1 0x123456#24 ⟨1#16, 2#16⟩))
      ∧ (let s := accumulating .line 0x48123456#32 0 base
        s.dec.state = .accum ∧ kindOf (opOf s.dec.cmdWord) = some s.dec.kind ∧ s.dec.kind = .line
          ∧ s.dec.cmdWord.getLsbD 27 = true ∧ isTerminator s.cfg 0x55555555#32 = true
          ∧ decode (draws (s.dec.cmdWord :: (s.dec.argBuf.toList.take s.dec.argLen ++ [0x55555555#32])))
            = .ok (.plineF 0x123456#24 [0x55555555#32])) := by decide

/-- A single word, a polyline that a terminator ends, and one of 16 words without a terminator. -/
theorem test_witness_InstructionStreamRuns :
    (Instr.nop.wellFormed = true ∧ (issue (.write 0 .word 0#32) base).pending = encode .nop ++ [])
      ∧ (Instr.plineF 0#24 [0#32, 0x50005000#32]).wellFormed = true
      ∧ (Instr.plineF 0#24 (List.replicate 16 0#32)).wellFormed = true
      ∧ endsPolyline base.cfg [0#32, 0x50005000#32] ∧ endsPolyline base.cfg (List.replicate 16 0#32) := by
  have zero : ∀ w : Word, w = 0#32 → isTerminator base.cfg w = false := fun w h => h ▸ by decide
  refine ⟨by decide, by decide, by decide, ⟨fun w hw => zero w ?_, .inr ⟨0x50005000#32, by decide, by decide⟩⟩,
    ⟨fun w hw => zero w ?_, .inl (by decide)⟩⟩
  · simpa using hw
  · simpa using hw

theorem test_witness_CommandWordOnlyArmsDecoder :
    let s := issue (.write 0 .word 0x48000000#32) base
    s.fault = false ∧ s.pending = .write 0 .word 0x48000000#32 :: [] ∧ s.dec.state = .idle
      ∧ kindOf (opOf 0x48000000#32) = some .line := by decide

/-- The first argument of a triangle, and the 15th of a polyline. -/
theorem test_witness_ArgumentWordIsOnlyStored :
    (let s := issue (.write 0 .word 0x55555555#32) (accumulating .polygon 0x20000000#32 0 base)
    s.fault = false ∧ s.pending = .write 0 .word 0x55555555#32 :: [] ∧ s.dec.state = .accum ∧ s.dec.argLen < 16
      ∧ s.dec.argLen + 1 ≠ s.dec.argExpected ∧ s.dec.kind ≠ .line)
    ∧ (let s := issue (.write 0 .word 0#32) (accumulating .line 0x48000000#32 14 base)
    s.dec.argLen < 16 ∧ s.dec.argLen + 1 ≠ s.dec.argExpected ∧ isTerminator s.cfg 0#32 = false) := by decide

/-- Each terminator, at the first and at the 16th argument. -/
theorem test_witness_TerminatorEndsPolyline :
    (let s := issue (.write 0 .word 0x55555555#32) (accumulating .line 0x48000000#32 0 base)
    s.fault = false ∧ s.dec.wf ∧ s.dec.state = .accum ∧ s.dec.kind = .line ∧ s.dec.cmdWord.getLsbD 27 = true
      ∧ 0x55555555#32 = s.cfg.termA)
    ∧ (let s := issue (.write 0 .word 0x50005000#32) (accumulating .line 0x58000000#32 15 base)
    s.fault = false ∧ s.dec.wf ∧ s.dec.state = .accum ∧ s.dec.kind = .line ∧ s.dec.cmdWord.getLsbD 27 = true
      ∧ 0x50005000#32 = s.cfg.termB) :=
  ⟨⟨rfl, ⟨by decide, rfl, by decide⟩, rfl, rfl, by decide, rfl⟩,
    ⟨rfl, ⟨by decide, rfl, by decide⟩, rfl, rfl, by decide, rfl⟩⟩

theorem test_witness_DefinedTransactionsComplete :
    (issue (.write 0 .word 0xA0000000#32) base).Inv ∧ (issue (.read 4 .word) base).Inv
      ∧ isDefinedAccess (.write 0 .word 0xA0000000#32) = true ∧ isDefinedAccess (.read 4 .word) = true
      ∧ isDefinedAccess (.backend 0 0 0#16 false false) = true :=
  ⟨inv_issue _ base_inv, inv_issue _ base_inv, rfl, rfl, rfl⟩

theorem test_witness_EveryStepKeepsInvariant :
    (issue (.write 0 .word 0xFFFFFFFF#32) (uploading 3 1 2 0 base)).Inv
      ∧ ∃ t, step (issue (.write 0 .word 0xFFFFFFFF#32) (uploading 3 1 2 0 base)) = .next t :=
  ⟨inv_issue _ (uploading_inv (by decide)), _, rfl⟩

/-- The ends of the two opcode ranges, under any top bits; and a state with `fault` set. -/
theorem test_witness_FatalIsSticky :
    [0x0A000000#32, 0xCF000000#32].all
        (fun w : Word => decide (0x0A ≤ (w.extractLsb' 24 6).toNat ∧ (w.extractLsb' 24 6).toNat ≤ 0x0F)) = true
      ∧ [0x20000000#32, 0xFF000000#32].all (fun w : Word => decide (0x20 ≤ (w.extractLsb' 24 6).toNat)) = true
      ∧ ({ issue (.read 4 .word) base with fault := true } : State).fault = true := by decide

theorem test_witness_OtherPortAccessesAreRefused :
    [Transaction.write 0 .byte 0#32, .write 4 .half 0#32, .write 8 .word 0#32, .write 1 .word 0#32, .read 2 .word,
      .read 0 .byte].any isDefinedAccess = false := by decide

/-- Single words of SettingWordsWriteRegisters, and the state that takes them. -/
theorem test_witness_SettingWordsWriteRegisters :
    base.fault = false ∧ base.dec.state = .idle
      ∧ (issue (.write 0 .word (0xE1#8 ++ 0xFFFFFF#24)) base).pending = .write 0 .word (0xE1#8 ++ 0xFFFFFF#24) :: []
      ∧ (issue (.write 0 .word (0xE6#8 ++ 0#24)) base).pending = .write 0 .word (0xE6#8 ++ 0#24) :: [] := by decide

/-- One instruction of each end of the two classes, with its word. -/
theorem test_witness_unknown_and_unrecognized :
    ((Instr.unknown03 0x03000000#32).isUnknown = true ∧ encode (.unknown03 0x03000000#32) = [.write 0 .word 0x03000000#32])
      ∧ ((Instr.unknownF0_FF 0xFFFFFFFF#32).isUnknown = true
        ∧ encode (.unknownF0_FF 0xFFFFFFFF#32) = [.write 0 .word 0xFFFFFFFF#32])
      ∧ ((Instr.gp1Unrecognized0A 0x0A000000#32).isUnrecognized = true
        ∧ encode (.gp1Unrecognized0A 0x0A000000#32) = [.write 4 .word 0x0A000000#32])
      ∧ ((Instr.gp1Unrecognized20_3F 0xFFFFFFFF#32).isUnrecognized = true
        ∧ encode (.gp1Unrecognized20_3F 0xFFFFFFFF#32) = [.write 4 .word 0xFFFFFFFF#32]) := by decide

/-- The ends of the five ranges of UnknownOpcodesAreTheListedOnes, and their neighbours outside. -/
theorem test_witness_UnknownOpcodesAreTheListedOnes :
    let listed (op : Nat) : Bool :=
      decide ((0x03 ≤ op ∧ op ≤ 0x1E) ∨ (0x81 ≤ op ∧ op ≤ 0x9F) ∨ (0xA1 ≤ op ∧ op ≤ 0xBF) ∨ (0xC1 ≤ op ∧ op ≤ 0xE0)
        ∨ 0xE7 ≤ op)
    [0x03, 0x1E, 0x81, 0x9F, 0xA1, 0xBF, 0xC1, 0xE0, 0xE7, 0xFF].all listed = true
      ∧ [0x02, 0x1F, 0x80, 0xA0, 0xC0, 0xE1, 0xE6].any listed = false
      ∧ [0x02, 0x1F, 0x80, 0xA0, 0xC0, 0xE1, 0xE6].all (fun op =>
        (after (fun s => s.diags) (issue (.write 0 .word (BitVec.ofNat 8 op ++ 0#24)) base)) == some []) = true := by decide

/-- For FillWritesItsRectangle and BackendWritesOneMaskedPixel. -/
theorem test_witness_memory_in_form : base.fault = false ∧ base.vram.wf = true ∧ (row0 [1#16, 2#16] base).vram.wf = true := by
  decide

/-- A command of each family of 42_primitives with its words. -/
theorem test_witness_primitives :
    ((Instr.polyF3 0#24 ⟨1#16, 2#16⟩ ⟨3#16, 4#16⟩ ⟨5#16, 6#16⟩).isPolygon = true
        ∧ encode (.polyF3 0#24 ⟨1#16, 2#16⟩ ⟨3#16, 4#16⟩ ⟨5#16, 6#16⟩)
          = drawWrites (0x20000000#32 :: [0x00020001#32, 0x00040003#32, 0x00060005#32]))
      ∧ ((Instr.lineG 0#24 ⟨1#16, 2#16⟩ 7#24 ⟨3#16, 4#16⟩).isLine = true
        ∧ encode (.lineG 0#24 ⟨1#16, 2#16⟩ 7#24 ⟨3#16, 4#16⟩)
          = drawWrites (0x50000000#32 :: [0x00020001#32, 0x00000007#32, 0x00040003#32]))
      ∧ ((Instr.plineG 0#24 [1#32, 2#32, 0x55555555#32]).isPolyline = true
        ∧ encode (.plineG 0#24 [1#32, 2#32, 0x55555555#32])
          = drawWrites (0x58000000#32 :: [1#32, 2#32, 0x55555555#32]))
      ∧ ((Instr.rect1T 0#24 ⟨1#16, 2#16⟩ ⟨3#8, 4#8, 5#16⟩).isRect = true
        ∧ encode (.rect1T 0#24 ⟨1#16, 2#16⟩ ⟨3#8, 4#8, 5#16⟩)
          = drawWrites (0x6C000000#32 :: [0x00020001#32, 0x00050403#32])) := by decide

/-- The extremes of CoordinatesStayInRange are reached. -/
theorem test_witness_CoordinatesStayInRange :
    base.cfg.coordBits = 10
      ∧ coordX (withBank (fun b => { b with offX := 0x400#11 }) base) ⟨0x0200#16, 0#16⟩ = -1536
      ∧ coordY (withBank (fun b => { b with offY := 0x3FF#11 }) base) ⟨0#16, 0x01FF#16⟩ = 1534 := by decide

/-- The largest sizes that are copied and the smallest that abort. -/
theorem test_witness_VramCopyRunsOrAborts :
    let large (size : PairWord) : Bool := decide (1024 < size.lo.toNat ∨ 512 < size.hi.toNat)
    [(⟨1024#16, 512#16⟩ : PairWord), ⟨0#16, 0#16⟩].any large = false
      ∧ [(⟨1025#16, 1#16⟩ : PairWord), ⟨1#16, 513#16⟩, ⟨0xFFFF#16, 0xFFFF#16⟩].all large = true := by decide

/-- Two cells that wrap at column 1023, copied to two others. -/
theorem test_witness_DisjointVramCopyMovesCells :
    base.fault = false ∧ base.vram.wf = true ∧ base.bank.checkMask = false
      ∧ (∀ k j, k < 2 * 1 → j < 2 * 1 → rasterCell 1023#10 511#9 2 k ≠ rasterCell 5#10 511#9 2 j) :=
  ⟨rfl, rfl, rfl, fun k j hk hj =>
    (by decide : ∀ k, k < 2 → ∀ j, j < 2 → rasterCell 1023#10 511#9 2 k ≠ rasterCell 5#10 511#9 2 j) k hk j hj⟩

/-- The shortest and the rightmost spread. -/
theorem test_witness_OverlappingCopySpreadsFirstCell :
    base.bank.setMask = false ∧ base.bank.checkMask = false ∧ (1 ≤ 1 ∧ 1022 + 1 < 1024 ∧ 511 < 512)
      ∧ (1 ≤ 1023 ∧ 0 + 1023 < 1024 ∧ 0 < 512) := by decide

/-- Each branch of DataWordWritesTwoPixels: cells to come, the last two, the last one. -/
theorem test_witness_DataWordWritesTwoPixels :
    (uploading 3 1 0 0 base).Inv ∧ (uploading 2 1 0 0 base).Inv ∧ (uploading 3 1 2 0 base).Inv
      ∧ (uploading 3 1 0 0 base).dec.state = .transfer ∧ (uploading 3 1 0 0 base).wr.place + 2 < 3
      ∧ (uploading 2 1 0 0 base).wr.place + 2 = 2 ∧ (uploading 3 1 2 0 base).wr.place + 1 = 3 :=
  ⟨uploading_inv (by decide), uploading_inv (by decide), uploading_inv (by decide), rfl, by decide, rfl, rfl⟩

/-- A transfer of one cell, which one word ends, and one of 3 cells, which two words end. -/
theorem test_witness_TransferWordCounts :
    (uploading 1 1 0 0 base).Inv ∧ (uploading 1 1 0 0 base).wr.place = 0 ∧ (1 * 1 + 1) / 2 = 1
      ∧ (downloading 3 1 0 0 base).Inv ∧ (downloading 3 1 0 0 base).readMode = .vramTransfer
      ∧ (downloading 3 1 0 0 base).rd.place = 0 ∧ (3 * 1 + 1) / 2 = 2 :=
  ⟨uploading_inv (by decide), rfl, rfl, downloading_inv (by decide), rfl, rfl, rfl⟩

/-- A 3 by 1 rectangle: two data words and two reads; with the mask check on over an unmasked framebuffer. -/
theorem test_witness_UploadThenReadbackReturnsPixels :
    let s : State := { withBank (fun b => { b with checkMask := false }) base with
      pending := encode (.copyCpuVram 0#24 ⟨1023#16, 511#16⟩ ⟨3#16, 1#16⟩) ++ drawWrites [0xBBBBAAAA#32, 0xDDDDCCCC#32]
        ++ encode (.copyVramCpu 0#24 ⟨1023#16, 511#16⟩ ⟨3#16, 1#16⟩) ++ List.replicate 2 (.read 0 .word) ++ [] }
    s.Inv ∧ s.fault = false ∧ s.dec.state = .idle ∧ (3 * 1 + 1) / 2 = [0xBBBBAAAA#32, 0xDDDDCCCC#32].length
      ∧ s.bank.checkMask = false :=
  ⟨⟨rfl, rfl, (fun h => nomatch h), (fun h => nomatch h), base_inv.cfg, base_inv.dot, base_inv.line⟩, rfl, rfl, rfl, rfl⟩

theorem test_witness_LatchedReadsReturnLatch :
    base.fault = false ∧ base.readMode ≠ .vramTransfer ∧ ({ base with readMode := .infoQuery } : State).readMode ≠ .vramTransfer := by
  decide

/-- Each branch of TransferReadReturnsTwoCells: cells to come, the last two, the last one. -/
theorem test_witness_TransferReadReturnsTwoCells :
    (downloading 3 1 0 0 base).Inv ∧ (downloading 2 1 0 0 base).Inv ∧ (downloading 3 1 2 0 base).Inv
      ∧ (downloading 3 1 0 0 base).readMode = .vramTransfer ∧ (downloading 3 1 0 0 base).rd.place + 2 < 3
      ∧ (downloading 2 1 0 0 base).rd.place + 2 = 2 ∧ (downloading 3 1 2 0 base).rd.place + 1 = 3 :=
  ⟨downloading_inv (by decide), downloading_inv (by decide), downloading_inv (by decide), rfl, by decide, rfl, rfl⟩

/-- The clauses of StatusWordLayout on `data_request`, by DMA direction, inside and outside a transfer. -/
theorem test_witness_StatusWordLayout :
    [0#2, 1#2, 2#2, 3#2].map (fun d => dataRequest (withBank (fun b => { b with dmaDir := d }) base))
        = [false, true, true, true]
      ∧ [0#2, 1#2, 2#2, 3#2].map (fun d => dataRequest (withBank (fun b => { b with dmaDir := d }) (uploading 2 1 0 0 base)))
        = [false, true, true, false] := by decide

/-- Words of ControlWordsWriteRegisters, under each value of the top bits. -/
theorem test_witness_ControlWordsWriteRegisters :
    base.fault = false
      ∧ (issue (.write 4 .word (3#2 ++ (0x02#6 ++ 0#24))) base).pending = .write 4 .word (3#2 ++ (0x02#6 ++ 0#24)) :: []
      ∧ (issue (.write 4 .word (0#2 ++ (0x09#6 ++ 1#24))) base).pending = .write 4 .word (0#2 ++ (0x09#6 ++ 1#24)) :: [] := by
  decide

theorem test_witness_InfoQueriesLatch :
    base.fault = false ∧ Instr.getInfoNone0.isEmptyQuery = true ∧ Instr.getInfoNoneF.isEmptyQuery = true := by decide

/-- The first and the last call of NtscFrameTakes263Lines. -/
theorem test_witness_NtscFrameTakes263Lines :
    base.fault = false ∧ 0 < base.cfg.dotsPerLine ∧ base.bank.dispMode.getLsbD 3 = false
      ∧ base.bank.dispMode.getLsbD 2 = false ∧ base.timing.dot = 0 ∧ base.timing.line = 0
      ∧ (1 ≤ 1 ∧ 1 ≤ 263) ∧ (1 ≤ 263 ∧ 263 ≤ 263) := by decide

theorem test_witness_StepsAddUpWithinFrame :
    base.timing.line + (base.timing.dot + 3413 + (261 * 3413 + 3412)) / base.cfg.dotsPerLine < linesTotal base := by decide

/-- A step that moves the time, and one that sets and one that clears the IRQ latch. -/
theorem test_witness_TimeMovesOnlyInStep :
    (∃ t, step (issue (.elapse 1) base) = .next t ∧ t.timing ≠ base.timing) :=
  ⟨_, rfl, by decide⟩

theorem test_witness_IrqLatchSources :
    base.fault = false ∧ base.bank.irqLatch = false
      ∧ (∃ t, step (issue (.write 0 .word 0x1F000000#32) base) = .next t ∧ t.bank.irqLatch = true)
      ∧ (∃ t, step (issue (.write 0 .word 0x1F000000#32) (accumulating .fill 0x02000000#32 0 base)) = .next t
        ∧ t.bank.irqLatch = false)
      ∧ (∃ t, step (issue (.write 4 .word 0x02000000#32) (withBank (fun b => { b with irqLatch := true }) base)) = .next t
        ∧ t.bank.irqLatch = false)
      ∧ (∃ t, step (issue (.write 4 .word 0xC0000001#32) (withBank (fun b => { b with irqLatch := true }) base)) = .next t
        ∧ t.bank.irqLatch = false) :=
  ⟨rfl, rfl, ⟨_, rfl, rfl⟩, ⟨_, rfl, rfl⟩, ⟨_, rfl, rfl⟩, ⟨_, rfl, rfl⟩⟩

/-- VRAM changed by the backend, by a data word and by a fill. -/
theorem test_witness_VramHasFourWriters :
    [issue (.backend 0 0 1#16 false false) base, issue (.write 0 .word 1#32) (uploading 1 1 0 0 base),
      ready 0x02FFFFFF#32 [0#32, 0x00010010#32] base].map (after fun s => s.vram.isEmpty)
      = [some false, some false, some false] := by decide

/-- A data word over a masked cell, under the mask check. -/
theorem test_witness_MaskedCellsAreProtected :
    let s := issue (.write 0 .word 0xFFFFFFFF#32)
      (withBank (fun b => { b with checkMask := true }) { uploading 1 1 0 0 base with
        vram := [(2 * (511 * 1024 + 1022) + 1, 0x80#8)] })
    s.Inv ∧ s.bank.checkMask = true ∧ (s.vram.fbRead 1022#10 511#9).getLsbD 15 = true ∧ ¬ (s.dec.state = .accum)
      ∧ ∃ t, step s = .next t :=
  ⟨⟨by decide, rfl, (fun _ => by unfold Cursor.wf; decide), (fun h => nomatch h), base_inv.cfg, base_inv.dot, base_inv.line⟩, rfl,
    by decide, by decide, _, rfl⟩

/-- The first control opcode past the two that touch the decoder, in the middle of a transfer. -/
theorem test_witness_ControlPortLeavesTheRest :
    (∃ t, step (issue (.write 4 .word 0x02000000#32) (uploading 2 1 0 0 base)) = .next t)
      ∧ 2 ≤ ((0x02000000#32 : Word).extractLsb' 24 6).toNat :=
  ⟨⟨_, rfl⟩, by decide⟩

/-- An argument word, and a data word. -/
theorem test_witness_WordsInsideCommandsKeepRegisters :
    (∃ t, step (issue (.write 0 .word 0xE6000003#32) (accumulating .polygon 0x20000000#32 0 base)) = .next t)
      ∧ (∃ t, step (issue (.write 0 .word 0xE6000003#32) (uploading 2 1 0 0 base)) = .next t)
      ∧ (accumulating .polygon 0x20000000#32 0 base).dec.state ≠ .idle ∧ (uploading 2 1 0 0 base).dec.state ≠ .idle :=
  ⟨⟨_, rfl⟩, ⟨_, rfl⟩, by decide, by decide⟩

theorem test_witness_DiagnosticsAreNeverRead :
    ∃ t, step (issue (.write 0 .word 0x03000000#32) base) = .next t ∧ t.diags = [.diag .unknownGp0Opcode 0x03000000#32] :=
  ⟨_, rfl, rfl⟩

end Sys2Proof.Tests
end

section
/-! SUPPORT. The scope of the model (00_scope): the power-on state satisfies the invariant, a step runs the decoded
instruction, and every defined transaction completes. -/

namespace Sys2Proof

/-! ## Which argument lists a draw command takes -/

set_option maxRecDepth 100000 in
/-- A multi-argument command takes 1 to 16 argument words (40_command_decoder R140). -/
theorem argCount_bounds : ∀ op : Opcode, kindOf op ≠ none → 1 ≤ argCount op ∧ argCount op ≤ 16 := by decide

/-- A polyline expects as many argument words as the buffer holds (30_encoding R98). -/
theorem argCount_polyline {op : Opcode} (hk : kindOf op = some .line) (hp : op.getLsbD 3 = true) :
    argCount op = 16 := by
  simp only [argCount, hk, hp, if_true, Config.argBufWords]

/-- The argument lists of a multi-argument command: as many words as its opcode takes, but any number the buffer holds
for a polyline (40_command_decoder R140, 30_encoding R98). -/
def TakesArguments (op : Opcode) (args : List Word) : Prop :=
  if kindOf op = some .line ∧ op.getLsbD 3 = true then polylineFits args = true else args.length = argCount op

theorem takesArguments_of_not_line {op : Opcode} {k : DecKind} (hk : kindOf op = some k) (h : k ≠ .line)
    (args : List Word) : TakesArguments op args ↔ args.length = argCount op := by
  simp only [TakesArguments, hk, Option.some.injEq, h, false_and, if_false]

theorem takesArguments_polyline {op : Opcode} (hk : kindOf op = some .line) (hp : op.getLsbD 3 = true)
    (args : List Word) : TakesArguments op args ↔ polylineFits args = true := by
  simp only [TakesArguments, hk, hp, and_self, if_true]

theorem takesArguments_segment {op : Opcode} (hp : op.getLsbD 3 = false) (args : List Word) :
    TakesArguments op args ↔ args.length = argCount op := by
  simp only [TakesArguments, hp, Bool.false_eq_true, and_false, if_false]

/-- As many words as the opcode counts always do: a polyline's 16 fit the buffer. -/
theorem takesArguments_of_length {op : Opcode} {args : List Word} (h : args.length = argCount op) :
    TakesArguments op args := by
  unfold TakesArguments
  split
  case isTrue hline =>
    rw [polylineFits_iff, h, argCount_polyline hline.1 hline.2]
    decide
  case isFalse => exact h

/-- A multi-argument command never decodes from its command word alone. -/
theorem not_takesArguments_nil {op : Opcode} (hk : kindOf op ≠ none) : ¬ TakesArguments op [] := by
  have hpos := (argCount_bounds op hk).1
  unfold TakesArguments
  split
  · decide
  · simp only [List.length_nil]
    omega

theorem takePairs2_answers_iff {k : PairWord → PairWord → Instr} {op : Opcode} {args : List Word} :
    (∃ i, takePairs2 k op args = .ok i) ↔ args.length = 2 := by
  refine ⟨?_, takePairs2_of_length⟩
  rintro ⟨i, h⟩
  obtain ⟨_, _, rfl, -⟩ := takePairs2_ok h
  rfl

theorem takePairs3_answers_iff {k : PairWord → PairWord → PairWord → Instr} {op : Opcode} {args : List Word} :
    (∃ i, takePairs3 k op args = .ok i) ↔ args.length = 3 := by
  refine ⟨?_, takePairs3_of_length⟩
  rintro ⟨i, h⟩
  obtain ⟨_, _, _, rfl, -⟩ := takePairs3_ok h
  rfl

/-- The decoder answers exactly for the argument lists the opcode takes. -/
theorem decodeGp0_answers_iff {w : Word} {k : DecKind} (hk : kindOf (opOf w) = some k) (args : List Word) :
    (∃ i, decodeGp0 w args = .ok i) ↔ TakesArguments (opOf w) args := by
  cases k with
  | fill =>
    rw [decodeGp0_fill hk, takesArguments_of_not_line hk nofun, fill_opcode _ hk]
    exact takePairs2_answers_iff
  | polygon =>
    rw [decodeGp0_polygon hk, takesArguments_of_not_line hk nofun]
    exact ⟨fun ⟨_, h⟩ => (decodePolygon_ok hk h).1, decodePolygon_of_length hk⟩
  | line =>
    rw [decodeGp0_line hk]
    cases hp : (opOf w).getLsbD 3 with
    | false =>
      rw [takesArguments_segment hp]
      exact ⟨fun ⟨_, h⟩ => (decodeLine_single hk hp h).1, decodeLine_of_length hk hp⟩
    | true =>
      rw [takesArguments_polyline hk hp]
      exact ⟨fun ⟨_, h⟩ => (decodeLine_polyline hk hp h).1, decodeLine_of_fits hk hp⟩
  | rect =>
    rw [decodeGp0_rect hk, takesArguments_of_not_line hk nofun]
    exact ⟨fun ⟨_, h⟩ => (decodeRect_ok hk h).1, decodeRect_of_length hk⟩
  | copyVramVram =>
    rw [decodeGp0_copyVramVram hk, takesArguments_of_not_line hk nofun, copyVramVram_opcode _ hk]
    exact takePairs3_answers_iff
  | copyCpuVram =>
    rw [decodeGp0_copyCpuVram hk, takesArguments_of_not_line hk nofun, copyCpuVram_opcode _ hk]
    exact takePairs2_answers_iff
  | copyVramCpu =>
    rw [decodeGp0_copyVramCpu hk, takesArguments_of_not_line hk nofun, copyVramCpu_opcode _ hk]
    exact takePairs2_answers_iff

/-- A draw-port word that is a whole instruction is of a single-word class. -/
theorem decode_draw_word {w : Word} {i : Instr} (h : decode [.write 0 .word w] = .ok i) :
    kindOf (opOf w) = none ∧ decodeImmediate w = i := by
  have h : decodeGp0 w [] = .ok i := h
  cases hk : kindOf (opOf w) with
  | none => exact ⟨rfl, (decodeGp0_immediate hk h).2.symm⟩
  | some k => exact absurd ((decodeGp0_answers_iff hk []).1 ⟨i, h⟩) (not_takesArguments_nil (by simp [hk]))

end Sys2Proof

namespace Sys2Proof.Machine

/-! ## The power-on state -/

/-- The parameters at their defaults meet the constraints of 00_scope R5, whatever line PAL vblank starts on. -/
theorem defaultParams_wf : defaultParams.wf = true := by
  have h : defaultParams.vblankStartPal ≤ 314 := Config.freeVblankStartPal.isLt
  have hpos : 0 < defaultParams.vblankStartPal := Nat.succ_pos _
  simp [Config.Params.wf, h, hpos, show defaultParams.linesTotalPal = 314 from rfl,
    show defaultParams.dotsPerLine = 3413 from rfl, show defaultParams.coordBits = 10 from rfl]

/-- Settles O3: VRAM is in canonical form whatever it contains; the decoder is idle and no transfer is under way. -/
theorem powerOnStateSatisfiesInvariant : Obligations.PowerOnStateSatisfiesInvariant where
  vram := Memory.wf_powerOnVram
  dec := rfl
  wr := nofun
  rd := nofun
  cfg := defaultParams_wf
  dot := by decide
  line := by decide

/-! ## The six transaction kinds -/

/-- The six transaction kinds, one constructor each (00_scope R3). -/
inductive DefinedAccess : Transaction → Prop
  | draw (w : Word) : DefinedAccess (.write 0 .word w)
  | control (w : Word) : DefinedAccess (.write 4 .word w)
  | readData : DefinedAccess (.read 0 .word)
  | readStatus : DefinedAccess (.read 4 .word)
  | elapse (cycles : Nat) : DefinedAccess (.elapse cycles)
  | backend (x y : Int) (v : Half) (sm cm : Bool) : DefinedAccess (.backend x y v sm cm)

theorem definedAccess_of_isDefinedAccess {t : Transaction} (h : isDefinedAccess t = true) : DefinedAccess t := by
  cases t with
  | write offset size w =>
    simp only [isDefinedAccess, Bool.and_eq_true, Bool.or_eq_true, beq_iff_eq] at h
    obtain ⟨rfl | rfl, rfl⟩ := h
    · exact .draw w
    · exact .control w
  | read offset size =>
    simp only [isDefinedAccess, Bool.and_eq_true, Bool.or_eq_true, beq_iff_eq] at h
    obtain ⟨rfl | rfl, rfl⟩ := h
    · exact .readData
    · exact .readStatus
  | elapse cycles => exact .elapse cycles
  | backend x y v sm cm => exact .backend x y v sm cm

/-- Only a transaction of the six kinds is an instruction by itself. -/
theorem definedAccess_of_decode {t : Transaction} {i : Instr} (h : decode [t] = .ok i) : DefinedAccess t := by
  cases hw : drawWord t with
  | some w =>
    rw [eq_write_of_drawWord hw]
    exact .draw w
  | none =>
    have h : decodeOther t = .ok i := by simpa only [decode, hw] using h
    unfold decodeOther at h
    split at h
    · split at h
      case isTrue hc =>
        obtain ⟨rfl, rfl⟩ := hc
        exact .control _
      case isFalse => cases h
    · split at h
      case isTrue hc =>
        obtain ⟨rfl, rfl⟩ := hc
        exact .readData
      case isFalse =>
        split at h
        case isTrue hc =>
          obtain ⟨rfl, rfl⟩ := hc
          exact .readStatus
        case isFalse => cases h
    · exact .elapse _
    · exact .backend _ _ _ _ _

/-- A transaction that is an instruction by itself runs it; a draw-port word, at an idle decoder. -/
theorem step_of_decode {s : State} {t : Transaction} {rest : List Transaction} {i : Instr} (hf : s.fault = false)
    (hp : s.pending = t :: rest) (hd : decode [t] = .ok i)
    (hidle : (∃ w, t = .write 0 .word w) → s.dec.state = .idle) :
    step s = exec i (s.setPending rest) := by
  cases definedAccess_of_decode hd with
  | draw w =>
    obtain ⟨hk, rfl⟩ := decode_draw_word hd
    exact step_immediate hp hf (hidle ⟨w, rfl⟩) hk
  | control w => cases hd; exact step_control hp hf
  | readData => cases hd; exact step_readData hp hf
  | readStatus => cases hd; exact step_readStatus hp hf
  | elapse cycles => cases hd; exact step_elapse hp hf
  | backend x y v sm cm => cases hd; exact step_backend hp hf

/-! ## The argument that completes a command -/

/-- `op[3]` is bit 27 of the command word (40_command_decoder R134). -/
theorem getLsbD_opOf (w : Word) : (opOf w).getLsbD 3 = w.getLsbD 27 := by simp [opOf]

theorem isPolyline_iff (d : Decoder) :
    isPolyline d = true ↔ d.kind = .line ∧ d.cmdWord.getLsbD 27 = true := by
  simp only [isPolyline, Bool.and_eq_true, beq_iff_eq]

/-- The count expected once a word is stored: a terminator in a polyline makes it the count held
(40_command_decoder R135). -/
theorem appendArgument_argExpected (cfg : Config.Params) (w : Word) (d : Decoder) :
    (appendArgument cfg w d).argExpected =
      if isPolyline d = true ∧ isTerminator cfg w = true then d.argLen + 1 else d.argExpected := by
  simp only [appendArgument, Bool.and_eq_true]

/-- A word completes the command exactly when it is the last one expected, or a terminator in a polyline
(40_command_decoder R134, R135). -/
theorem appendArgument_completes_iff (cfg : Config.Params) (w : Word) (d : Decoder) :
    (appendArgument cfg w d).argLen = (appendArgument cfg w d).argExpected
      ↔ d.argLen + 1 = d.argExpected ∨ (isPolyline d = true ∧ isTerminator cfg w = true) := by
  rw [appendArgument_argExpected, show (appendArgument cfg w d).argLen = d.argLen + 1 from rfl]
  split
  case isTrue h => exact ⟨fun _ => .inr h, fun _ => rfl⟩
  case isFalse h => exact ⟨.inl, fun h' => h'.resolve_right h⟩

/-- The decoder with the completing word stored. -/
theorem appendArgument_of_completes {cfg : Config.Params} {w : Word} {d : Decoder}
    (h : (appendArgument cfg w d).argLen = (appendArgument cfg w d).argExpected) :
    appendArgument cfg w d =
      { d with
        argBuf := d.argBuf.setIfInBounds d.argLen w, argLen := d.argLen + 1, argExpected := d.argLen + 1 } := by
  have he : (appendArgument cfg w d).argExpected = d.argLen + 1 := h.symm
  calc
    appendArgument cfg w d = { d with
        argBuf := d.argBuf.setIfInBounds d.argLen w, argLen := d.argLen + 1
        argExpected := (appendArgument cfg w d).argExpected } := rfl
    _ = _ := by rw [he]

/-- Settles O11: the transaction kinds one by one, and the dispatch of a completed command. -/
theorem stepRunsDecodedInstruction : Obligations.StepRunsDecodedInstruction := by
  constructor
  · intro s t rest i hf hp hd hidle
    exact step_of_decode hf hp hd hidle
  · intro s w rest i hf hp hacc hk hlen hlast hd
    have hdone : (appendArgument s.cfg w s.dec).argLen = (appendArgument s.cfg w s.dec).argExpected := by
      rw [appendArgument_completes_iff, isPolyline_iff, and_assoc]
      exact hlast
    have hd' : decodeGp0 s.dec.cmdWord (appendArgument s.cfg w s.dec).arguments = .ok i := by
      rw [Decoder.arguments_append s.cfg w hlen, ← decode_drawWrites]
      exact hd
    rw [step_dispatch hp hf hacc hdone hk hd', appendArgument_of_completes hdone]
    rfl

/-! ## Defined transactions complete -/

/-- Every instruction has a next state while `fault` is 0. -/
theorem exec_completes (i : Instr) {s : State} (hf : s.fault = false) : ∃ t, exec i s = .next t := by
  obtain ⟨t, ht⟩ := exec_commits i s
  exact ⟨t, ht.trans (State.commit_live hf)⟩

/-- In `Accum`, the words held and a completing one are arguments the stored command takes. -/
theorem takesArguments_of_completes {cfg : Config.Params} {w : Word} {d : Decoder} (hwf : d.wf) (hs : d.state = .accum)
    (h : (appendArgument cfg w d).argLen = (appendArgument cfg w d).argExpected) :
    TakesArguments (opOf d.cmdWord) (appendArgument cfg w d).arguments := by
  simp only [Decoder.wf, hs] at hwf
  obtain ⟨hk, he, hlt⟩ := hwf
  have hmax := (argCount_bounds (opOf d.cmdWord) (by simp [hk])).2
  have hlen : (appendArgument cfg w d).arguments.length = d.argLen + 1 :=
    Decoder.arguments_length (d := appendArgument cfg w d) (show d.argLen + 1 ≤ 16 by omega)
  rcases (appendArgument_completes_iff cfg w d).1 h with hlast | ⟨hpoly, -⟩
  · exact takesArguments_of_length (by omega)
  · obtain ⟨hline, hbit⟩ := (isPolyline_iff d).1 hpoly
    rw [takesArguments_polyline (hline ▸ hk) ((getLsbD_opOf _).trans hbit), polylineFits_iff]
    omega

/-- The decoder takes every draw-port word in a state of the invariant (40_command_decoder R130). -/
theorem step_draw_completes {s : State} {w : Word} {rest : List Transaction} (hwf : s.dec.wf) (hf : s.fault = false)
    (hp : s.pending = .write 0 .word w :: rest) : ∃ u, step s = .next u := by
  cases hs : s.dec.state with
  | idle =>
    cases hk : kindOf (opOf w) with
    | none =>
      rw [step_immediate hp hf hs hk]
      exact exec_completes _ hf
    | some k => exact ⟨_, step_start hp hf hs hk⟩
  | accum =>
    by_cases hn : (appendArgument s.cfg w s.dec).argLen = (appendArgument s.cfg w s.dec).argExpected
    · have htakes := takesArguments_of_completes hwf hs hn
      simp only [Decoder.wf, hs] at hwf
      obtain ⟨i, hd⟩ := (decodeGp0_answers_iff hwf.1 _).2 htakes
      rw [step_dispatch hp hf hs hn hwf.1 hd]
      exact exec_completes i hf
    · exact ⟨_, step_argument hp hf hs hn⟩
  | transfer => exact ⟨_, step_data hp hf hs⟩

/-- Settles O16: only the draw port has states to tell apart, and the invariant settles those. -/
theorem definedTransactionsComplete : Obligations.DefinedTransactionsComplete := by
  intro s t rest hinv hf hp ht
  cases definedAccess_of_isDefinedAccess ht with
  | draw w => exact step_draw_completes hinv.dec hf hp
  | control w => rw [step_control hp hf]; exact exec_completes _ hf
  | readData => rw [step_readData hp hf]; exact exec_completes _ hf
  | readStatus => rw [step_readStatus hp hf]; exact exec_completes _ hf
  | elapse cycles => rw [step_elapse hp hf]; exact exec_completes _ hf
  | backend x y v sm cm => rw [step_backend hp hf]; exact exec_completes _ hf

end Sys2Proof.Machine
end

section
/-! SUPPORT. The output streams only grow, and no step reads the diagnostic stream (00_scope R10, R11). -/

namespace Sys2Proof.Machine

/-! ## Transformers that only add to the output streams -/

/-- The same state with another history of diagnostic events. -/
def State.withDiags (s : State) (history : List DiagEvent) : State := { s with diags := history }

@[simp] theorem State.withDiags_dec (s : State) (history : List DiagEvent) : (s.withDiags history).dec = s.dec := rfl
@[simp] theorem State.withDiags_wr (s : State) (history : List DiagEvent) : (s.withDiags history).wr = s.wr := rfl
@[simp] theorem State.withDiags_rd (s : State) (history : List DiagEvent) : (s.withDiags history).rd = s.rd := rfl
@[simp] theorem State.withDiags_readMode (s : State) (history : List DiagEvent) :
    (s.withDiags history).readMode = s.readMode := rfl

/-- A transformer of states that only adds to the output streams, and neither reads the diagnostic stream nor lets
what it adds there depend on it (00_scope R10, R11). -/
structure AddsOutput (f : State → State) : Prop where
  emissions : ∀ s, s.emissions <+: (f s).emissions
  results : ∀ s, s.results <+: (f s).results
  diags : ∀ s, ∃ events, ∀ history, f (s.withDiags history) = (f s).withDiags (history ++ events)

/-- A transformer that adds nothing. -/
theorem AddsOutput.silent {f : State → State} (he : ∀ s, (f s).emissions = s.emissions)
    (hr : ∀ s, (f s).results = s.results)
    (hd : ∀ s history, f (s.withDiags history) = (f s).withDiags history) : AddsOutput f where
  emissions s := (he s) ▸ List.prefix_rfl
  results s := (hr s) ▸ List.prefix_rfl
  diags s := ⟨[], fun history => by rw [hd, List.append_nil]⟩

/-- One transformer after another. -/
theorem AddsOutput.comp {f g : State → State} (hg : AddsOutput g) (hf : AddsOutput f) :
    AddsOutput (fun s => g (f s)) where
  emissions s := (hf.emissions s).trans (hg.emissions (f s))
  results s := (hf.results s).trans (hg.results (f s))
  diags s := by
    obtain ⟨first, h1⟩ := hf.diags s
    obtain ⟨second, h2⟩ := hg.diags (f s)
    exact ⟨first ++ second, fun history => by rw [h1, h2, List.append_assoc]⟩

/-- Transformers chosen by something of the state that is no diagnostic. -/
theorem AddsOutput.choose {α : Type} {c : State → α} {f : α → State → State}
    (hc : ∀ s history, c (s.withDiags history) = c s) (hf : ∀ a, AddsOutput (f a)) :
    AddsOutput (fun s => f (c s) s) where
  emissions s := (hf (c s)).emissions s
  results s := (hf (c s)).results s
  diags s := by
    obtain ⟨events, h⟩ := (hf (c s)).diags s
    exact ⟨events, fun history => by rw [hc, h]⟩

theorem addsOutput_dispatched (st : DecState) : AddsOutput (·.dispatched st) :=
  .silent (fun _ => rfl) (fun _ => rfl) (fun _ _ => rfl)

theorem addsOutput_setPending (ts : List Transaction) : AddsOutput (·.setPending ts) :=
  .silent (fun _ => rfl) (fun _ => rfl) (fun _ _ => rfl)

theorem addsOutput_emit (es : List Emission) : AddsOutput (·.emit es) where
  emissions s := List.prefix_append ..
  results s := List.prefix_rfl
  diags s := ⟨[], fun history => by rw [List.append_nil]; rfl⟩

theorem addsOutput_answer (r : BusResult) : AddsOutput (·.answer r) where
  emissions s := List.prefix_rfl
  results s := List.prefix_append ..
  diags s := ⟨[], fun history => by rw [List.append_nil]; rfl⟩

theorem addsOutput_diag (k : DiagKind) (info : Word) : AddsOutput (·.diag k info) where
  emissions _ := List.prefix_rfl
  results _ := List.prefix_rfl
  diags _ := ⟨[.diag k info], fun _ => rfl⟩

theorem addsOutput_raiseFatal (info : Word) : AddsOutput (·.raiseFatal info) where
  emissions _ := List.prefix_rfl
  results _ := List.prefix_rfl
  diags _ := ⟨[.fatal info], fun _ => rfl⟩

/-! ## Copies and transfers -/

theorem addsOutput_reservedCheck (op : Opcode) (r : Color) : AddsOutput (reservedCheck op r) := by
  unfold reservedCheck
  split
  · exact .silent (fun _ => rfl) (fun _ => rfl) (fun _ _ => rfl)
  · exact addsOutput_diag _ _

theorem addsOutput_copyOrAbort (src dst size : PairWord) : AddsOutput (copyOrAbort src dst size) := by
  unfold copyOrAbort
  split
  · exact addsOutput_diag _ _
  · exact .silent (fun _ => rfl) (fun _ => rfl) (fun _ _ => rfl)

/-- One pixel of an upload, with another history of events. -/
theorem writePixel_withDiags (v : Half) (s : State) (history : List DiagEvent) :
    writePixel v (s.withDiags history) = (writePixel v s).withDiags history := by
  rcases h : s.wr.advance with ⟨c, last⟩
  cases last <;> (simp only [writePixel, State.withDiags_wr, h]; rfl)

theorem addsOutput_writePixel (v : Half) : AddsOutput (writePixel v) := by
  refine .silent (fun s => ?_) (fun s => ?_) (writePixel_withDiags v)
  all_goals
    obtain ⟨_, _, _, he, -⟩ := writePixel_frame v s
    rw [he]

theorem copyDataWord_withDiags (w : Word) (s : State) (history : List DiagEvent) :
    copyDataWord w (s.withDiags history) = (copyDataWord w s).withDiags history := by
  unfold copyDataWord
  simp only [writePixel_withDiags, State.withDiags_dec]
  split <;> rfl

theorem addsOutput_copyDataWord (w : Word) : AddsOutput (copyDataWord w) := by
  refine .silent (fun s => ?_) (fun s => ?_) (copyDataWord_withDiags w)
  all_goals
    obtain ⟨_, _, _, he, -⟩ := copyDataWord_frame w s
    rw [he]

/-- One cell of a read-back, with another history of events. -/
theorem readPixel_withDiags (s : State) (history : List DiagEvent) :
    readPixel (s.withDiags history) = ((readPixel s).1, (readPixel s).2.withDiags history) := by
  rcases h : s.rd.advance with ⟨c, last⟩
  cases last <;> (simp only [readPixel, State.withDiags_rd, h]; rfl)

theorem transferRead_withDiags (s : State) (history : List DiagEvent) :
    transferRead (s.withDiags history) = ((transferRead s).1, (transferRead s).2.withDiags history) := by
  simp only [transferRead, readPixel_withDiags, State.withDiags_readMode]
  split <;> rfl

theorem readDataPort_withDiags (s : State) (history : List DiagEvent) :
    readDataPort (s.withDiags history) = ((readDataPort s).1, (readDataPort s).2.withDiags history) := by
  cases h : s.readMode with
  | normal => simp only [readDataPort, State.withDiags_readMode, h]; rfl
  | infoQuery => simp only [readDataPort, State.withDiags_readMode, h]; rfl
  | vramTransfer => simp only [readDataPort, State.withDiags_readMode, h, transferRead_withDiags]

theorem addsOutput_readDataPort : AddsOutput (fun s => (readDataPort s).2) := by
  refine .silent (fun s => ?_) (fun s => ?_) (fun s history => by rw [readDataPort_withDiags])
  all_goals
    obtain ⟨_, _, _, _, he⟩ := readDataPort_frame s
    rw [he]

/-- What `RESET_CMDBUF` makes of a state under each behaviour (44_control_port R282). -/
def cmdbufReset (word : Word) : Config.CommandBufferReset → State → State
  | .clear, s => s.clearCommand
  | .noop, s => s
  | .fatal, s => s.raiseFatal word

theorem exec_resetCmdbuf (word : Word) (s : State) :
    exec (.resetCmdbuf word) s = s.commit (cmdbufReset word s.cfg.commandBufferReset s) := by
  show execResetCmdbuf word s = _
  unfold execResetCmdbuf
  cases s.cfg.commandBufferReset <;> rfl

theorem addsOutput_cmdbufReset (word : Word) (b : Config.CommandBufferReset) : AddsOutput (cmdbufReset word b) := by
  cases b with
  | clear => exact .silent (fun _ => rfl) (fun _ => rfl) (fun _ _ => rfl)
  | noop => exact .silent (fun _ => rfl) (fun _ => rfl) (fun _ _ => rfl)
  | fatal => exact addsOutput_raiseFatal word

/-! ## Instructions -/

/-- An instruction commits a transformer that only adds to the output streams. -/
def OnlyAddsOutput (i : Instr) : Prop := ∃ f, (∀ s, exec i s = s.commit (f s)) ∧ AddsOutput f

/-- A command that adds to no stream. -/
theorem OnlyAddsOutput.silent {i : Instr} {f : State → State} (hx : ∀ s, exec i s = s.commit (f s))
    (he : ∀ s, (f s).emissions = s.emissions) (hr : ∀ s, (f s).results = s.results)
    (hd : ∀ s history, f (s.withDiags history) = (f s).withDiags history) : OnlyAddsOutput i :=
  ⟨f, hx, .silent he hr hd⟩

/-- A command that emits records and leaves the decoder idle. -/
theorem OnlyAddsOutput.emits {i : Instr} {es : State → List Emission}
    (hx : ∀ s, exec i s = s.commit ((s.emit (es s)).dispatched .idle))
    (h : ∀ s history, es (s.withDiags history) = es s) : OnlyAddsOutput i :=
  ⟨_, hx, (addsOutput_dispatched .idle).comp (.choose h addsOutput_emit)⟩

/-- The commands that draw through the geometry backend: polygons, lines, polylines, rectangles. -/
def isDrawing (i : Instr) : Bool := i.isPolygon || i.isLine || i.isPolyline || i.isRect

/-- A drawing command only emits, and its records depend on no diagnostic. -/
theorem drawing_onlyAddsOutput {i : Instr} (h : isDrawing i = true) : OnlyAddsOutput i := by
  cases i <;> first | (cases h; done) | exact .emits (fun _ => rfl) (fun _ _ => rfl)

theorem unknown_onlyAddsOutput {i : Instr} (h : i.isUnknown = true) : OnlyAddsOutput i := by
  cases i <;> first | (cases h; done) | exact ⟨_, fun _ => rfl, addsOutput_diag _ _⟩

theorem unrecognized_onlyAddsOutput {i : Instr} (h : i.isUnrecognized = true) : OnlyAddsOutput i := by
  cases i <;> first | (cases h; done) | exact ⟨_, fun _ => rfl, addsOutput_raiseFatal _⟩

/-- Every instruction only adds to the output streams (00_scope R10, R11). -/
theorem exec_onlyAddsOutput (i : Instr) : OnlyAddsOutput i := by
  cases hdraw : isDrawing i with
  | true => exact drawing_onlyAddsOutput hdraw
  | false =>
  cases hunk : i.isUnknown with
  | true => exact unknown_onlyAddsOutput hunk
  | false =>
  cases hunr : i.isUnrecognized with
  | true => exact unrecognized_onlyAddsOutput hunr
  | false =>
  cases i
  case copyVramVram reserved src dst size =>
    exact ⟨_, fun _ => rfl, (addsOutput_dispatched .idle).comp
      ((addsOutput_copyOrAbort src dst size).comp (addsOutput_reservedCheck 0x80#8 reserved))⟩
  case copyCpuVram reserved dst size =>
    exact ⟨_, fun _ => rfl, .comp (g := fun s => (s.setWr (transferOf dst size)).dispatched .transfer)
      (.silent (fun _ => rfl) (fun _ => rfl) (fun _ _ => rfl)) (addsOutput_reservedCheck 0xA0#8 reserved)⟩
  case copyVramCpu reserved src size =>
    exact ⟨_, fun _ => rfl,
      .comp (g := fun s => ((s.setRd (transferOf src size)).setReadMode .vramTransfer).dispatched .idle)
      (.silent (fun _ => rfl) (fun _ => rfl) (fun _ _ => rfl)) (addsOutput_reservedCheck 0xC0#8 reserved)⟩
  case resetCmdbuf word =>
    exact ⟨_, exec_resetCmdbuf word, .choose (fun _ _ => rfl) (addsOutput_cmdbufReset word)⟩
  case readData =>
    exact ⟨_, fun _ => rfl, .choose (c := fun s => BusResult.data (readDataPort s).1)
      (f := fun r s => (readDataPort s).2.answer r) (fun s history => by rw [readDataPort_withDiags])
      (fun r => (addsOutput_answer r).comp addsOutput_readDataPort)⟩
  case readStatus =>
    exact ⟨_, fun _ => rfl,
      .choose (c := fun s => BusResult.status (statusWord s)) (fun _ _ => rfl) addsOutput_answer⟩
  case step cycles =>
    exact ⟨_, fun _ => rfl, .choose (c := elapseTiming cycles)
      (f := fun r s => (s.setTiming r.1).answer (.frameComplete r.2)) (fun _ _ => rfl)
      (fun r => (addsOutput_answer _).comp (.silent (fun _ => rfl) (fun _ => rfl) (fun _ _ => rfl)))⟩
  -- The three families are done; the others write registers or VRAM, or nothing.
  all_goals
    first
    | (cases hdraw; done)
    | (cases hunk; done)
    | (cases hunr; done)
    | exact .silent (fun _ => rfl) (fun _ => rfl) (fun _ => rfl) (fun _ _ => rfl)

/-! ## Steps -/

/-- Only a state with `fault` 0 takes a transaction. -/
theorem fault_of_step_next {s t : State} {tr : Transaction} {rest : List Transaction} (h : step s = .next t)
    (hp : s.pending = tr :: rest) : s.fault = false := by
  cases hf : s.fault with
  | false => rfl
  | true =>
    rw [step_fault hp hf] at h
    cases h

/-- The step from `s` is a transformer that only adds to the output streams, the same one under every history of
diagnostic events. -/
def StepOnlyAddsOutput (s t : State) : Prop :=
  ∃ f, AddsOutput f ∧ f s = t ∧ ∀ history, step (s.withDiags history) = .next (f (s.withDiags history))

/-- A step that takes its word in without running an instruction. -/
theorem StepOnlyAddsOutput.hold {s t : State} {f : State → State} (hf : AddsOutput f) (ht : t = f s)
    (h : ∀ history, step (s.withDiags history) = .next (f (s.withDiags history))) : StepOnlyAddsOutput s t :=
  ⟨f, hf, ht.symm, h⟩

/-- A step that runs an instruction once it has taken its transaction in by `g`. -/
theorem StepOnlyAddsOutput.run {s t : State} {i : Instr} {g : State → State} (hg : AddsOutput g)
    (ht : exec i (g s) = .next t) (hlive : ∀ history, (g (s.withDiags history)).fault = false)
    (h : ∀ history, step (s.withDiags history) = exec i (g (s.withDiags history))) : StepOnlyAddsOutput s t := by
  obtain ⟨f, hx, hf⟩ := exec_onlyAddsOutput i
  refine ⟨fun s => f (g s), hf.comp hg, ?_, fun history => ?_⟩
  · rw [hx] at ht
    exact (State.commit_eq_next.1 ht).2.symm
  · rw [h, hx, State.commit_live (hlive history)]

/-- A step that runs the instruction of one transaction. -/
theorem StepOnlyAddsOutput.transaction {s t : State} {i : Instr} {rest : List Transaction} (hlive : s.fault = false)
    (ht : exec i (s.setPending rest) = .next t)
    (h : ∀ history, step (s.withDiags history) = exec i ((s.withDiags history).setPending rest)) :
    StepOnlyAddsOutput s t :=
  .run (addsOutput_setPending rest) ht (fun _ => hlive) h

theorem step_onlyAddsOutput {s t : State} (h : step s = .next t) : StepOnlyAddsOutput s t := by
  have live : ∀ {tr rest}, s.pending = tr :: rest → s.fault = false := fault_of_step_next h
  cases step_next h with
  | idle hp ht =>
    exact .hold (f := id) (.silent (fun _ => rfl) (fun _ => rfl) (fun _ _ => rfl)) ht
      (fun history => step_nil (s := s.withDiags history) hp)
  | control w rest hp ht =>
    exact .transaction (live hp) ht fun history => step_control (s := s.withDiags history) hp (live hp)
  | readData rest hp ht =>
    exact .transaction (live hp) ht fun history => step_readData (s := s.withDiags history) hp (live hp)
  | readStatus rest hp ht =>
    exact .transaction (live hp) ht fun history => step_readStatus (s := s.withDiags history) hp (live hp)
  | elapse n rest hp ht =>
    exact .transaction (live hp) ht fun history => step_elapse (s := s.withDiags history) hp (live hp)
  | backend x y v sm cm rest hp ht =>
    exact .transaction (live hp) ht fun history => step_backend (s := s.withDiags history) hp (live hp)
  | immediate w rest hp hi hk ht =>
    exact .transaction (live hp) ht fun history => step_immediate (s := s.withDiags history) hp (live hp) hi hk
  | start w rest k hp hi hk ht =>
    exact .hold (f := fun s => startCommand k w (s.setPending rest))
      (.silent (fun _ => rfl) (fun _ => rfl) (fun _ _ => rfl)) ht
      fun history => step_start (s := s.withDiags history) hp (live hp) hi hk
  | argument w rest hp hi hn ht =>
    exact .hold (f := fun s => (s.setPending rest).setDec (appendArgument s.cfg w s.dec))
      (.silent (fun _ => rfl) (fun _ => rfl) (fun _ _ => rfl)) ht
      fun history => step_argument (s := s.withDiags history) hp (live hp) hi hn
  | dispatch w rest i hp hi hn hk hd ht =>
    exact .run (g := fun s => (s.setPending rest).setDec (appendArgument s.cfg w s.dec))
      (.silent (fun _ => rfl) (fun _ => rfl) (fun _ _ => rfl)) ht (fun _ => live hp)
      fun history => step_dispatch (s := s.withDiags history) hp (live hp) hi hn hk hd
  | data w rest hp hi ht =>
    exact .hold ((addsOutput_copyDataWord w).comp (addsOutput_setPending rest)) ht
      fun history => step_data (s := s.withDiags history) hp (live hp) hi

/-- Settles O60: the events a step adds do not depend on the history, so with the state's own history they are those
it has added. -/
theorem diagnosticsAreNeverRead : Obligations.DiagnosticsAreNeverRead := by
  intro s t history h
  obtain ⟨f, hf, rfl, hstep⟩ := step_onlyAddsOutput h
  obtain ⟨es, hes⟩ := hf.emissions s
  obtain ⟨rs, hrs⟩ := hf.results s
  obtain ⟨events, hevents⟩ := hf.diags s
  have hown : (f s).diags = s.diags ++ events := congrArg State.diags (hevents s.diags)
  exact ⟨⟨es, hes.symm⟩, ⟨rs, hrs.symm⟩, events, hown, (hstep history).trans (congrArg _ (hevents history))⟩

end Sys2Proof.Machine
end

section
/-! SUPPORT. Every step keeps the invariant: each update keeps it under what its part of the state needs, and so does
each way a step answers a next state. -/

namespace Sys2Proof.Machine

/-! ## Cursors in their rectangles -/

/-- A cursor stays inside its rectangle, also where the advance ends the transfer (43_vram_copy R246). -/
theorem Cursor.wf_advance {c : Cursor} (h : c.wf) : c.advance.1.wf := by
  have hlt := Cursor.place_lt h
  rw [Cursor.advance_eq h]
  split
  case isTrue hnext => exact Cursor.wf_atPlace h hnext
  case isFalse => exact Cursor.wf_atPlace h (by omega)

theorem writePixel_wr (v : Half) (s : State) : (writePixel v s).wr = s.wr.advance.1 := by
  unfold writePixel
  cases s.wr.advance with
  | mk c last => cases last <;> rfl

theorem copyDataWord_wr_wf (w : Word) {s : State} (h : s.wr.wf) : (copyDataWord w s).wr.wf := by
  have hlow : (writePixel (w.extractLsb' 0 16) s).wr.wf := by
    rw [writePixel_wr]
    exact Cursor.wf_advance h
  unfold copyDataWord
  dsimp only
  split
  · rw [writePixel_wr]
    exact Cursor.wf_advance hlow
  · exact hlow

theorem readPixel_rd (s : State) : (readPixel s).2.rd = s.rd.advance.1 := by
  unfold readPixel
  cases s.rd.advance with
  | mk c last => cases last <;> rfl

theorem transferRead_rd_wf {s : State} (h : s.rd.wf) : (transferRead s).2.rd.wf := by
  have hlow : (readPixel s).2.rd.wf := by
    rw [readPixel_rd]
    exact Cursor.wf_advance h
  unfold transferRead
  dsimp only [State.setReadLatch_rd]
  split
  · rw [readPixel_rd]
    exact Cursor.wf_advance hlow
  · exact hlow

/-- A read-back still under way after a data-port read has its cursor inside its rectangle (45_bus_reads R323). -/
theorem readDataPort_rd_wf {s : State} (h : s.readMode = .vramTransfer → s.rd.wf) :
    (readDataPort s).2.readMode = .vramTransfer → (readDataPort s).2.rd.wf := by
  cases hm : s.readMode with
  | normal => simp [readDataPort, hm]
  | infoQuery => simp [readDataPort, hm]
  | vramTransfer =>
    intro _
    simp only [readDataPort, hm]
    exact transferRead_rd_wf (h hm)

/-! ## The decoder's counts -/

theorem Decoder.wf_iff_of_not_accum {d : Decoder} (h : d.state ≠ .accum) : d.wf ↔ d.argLen = 0 := by
  unfold Decoder.wf
  split
  case h_1 => rfl
  case h_2 => rfl
  case h_3 hacc => exact absurd hacc h

theorem Decoder.wf_iff_of_accum {d : Decoder} (h : d.state = .accum) :
    d.wf ↔ kindOf (opOf d.cmdWord) = some d.kind ∧ d.argExpected = argCount (opOf d.cmdWord)
      ∧ d.argLen < d.argExpected := by
  simp only [Decoder.wf, h]

theorem Decoder.wf_cleared (d : Decoder) {st : DecState} (h : st ≠ .accum) : (d.cleared st).wf :=
  (Decoder.wf_iff_of_not_accum h).2 rfl

/-- A stored word that does not complete the command leaves room for another (40_command_decoder R134, R141). -/
theorem appendArgument_wf {cfg : Config.Params} {w : Word} {d : Decoder} (hacc : d.state = .accum) (h : d.wf)
    (hn : (appendArgument cfg w d).argLen ≠ (appendArgument cfg w d).argExpected) : (appendArgument cfg w d).wf := by
  obtain ⟨hkind, hcount, hlt⟩ := (Decoder.wf_iff_of_accum hacc).1 h
  rw [ne_eq, appendArgument_completes_iff, not_or] at hn
  obtain ⟨hlast, hterm⟩ := hn
  have hexp : (appendArgument cfg w d).argExpected = d.argExpected := by
    rw [appendArgument_argExpected, if_neg hterm]
  have hroom : d.argLen + 1 < (appendArgument cfg w d).argExpected := by omega
  exact (Decoder.wf_iff_of_accum (d := appendArgument cfg w d) hacc).2 ⟨hkind, hexp.trans hcount, hroom⟩

/-! ## The timing engine's ranges -/

theorem dotsPerLine_pos {p : Config.Params} (h : p.wf = true) : 0 < p.dotsPerLine := by
  simp only [Config.Params.wf, Bool.and_eq_true, decide_eq_true_eq] at h
  obtain ⟨⟨⟨⟨hpos, -⟩, -⟩, -⟩, -⟩ := h
  exact hpos

theorem linesTotal_le (s : State) : linesTotal s ≤ max 263 s.cfg.linesTotalPal := by
  unfold linesTotal
  split
  · exact Nat.le_max_right ..
  · exact Nat.le_max_left ..

theorem elapseTiming_dot (n : Nat) (s : State) :
    (elapseTiming n s).1.dot = (s.timing.dot + n) % s.cfg.dotsPerLine := by
  by_cases h : linesTotal s ≤ s.timing.line + (s.timing.dot + n) / s.cfg.dotsPerLine
  · rw [elapseTiming_wrap h]
  · rw [elapseTiming_within h]

/-- After `Step` the line is below the larger total (46_timing_engine R342, R343). -/
theorem elapseTiming_line_lt (n : Nat) (s : State) : (elapseTiming n s).1.line < max 263 s.cfg.linesTotalPal := by
  have hle := linesTotal_le s
  by_cases h : linesTotal s ≤ s.timing.line + (s.timing.dot + n) / s.cfg.dotsPerLine
  · rw [elapseTiming_wrap h]
    show 0 < max 263 s.cfg.linesTotalPal
    omega
  · rw [elapseTiming_within h]
    exact lt_of_lt_of_le (Nat.lt_of_not_le h) hle

/-! ## The invariant under each update -/

/-- The invariant does not speak of the register bank, the latch, `fault`, the output streams or the transactions to
come. -/
theorem State.Inv.setUnconstrained {s : State} (h : s.Inv) (b : RegisterBank) (l : Word) (f : Bool)
    (es : List Emission) (ds : List DiagEvent) (rs : List BusResult) (ts : List Transaction) :
    ({ s with
      bank := b, readLatch := l, fault := f, emissions := es, diags := ds, results := rs
      pending := ts } : State).Inv :=
  ⟨h.vram, h.dec, h.wr, h.rd, h.cfg, h.dot, h.line⟩

theorem State.Inv.setPending {s : State} (h : s.Inv) (ts : List Transaction) : (s.setPending ts).Inv :=
  h.setUnconstrained ..

theorem State.Inv.setVram {s : State} (h : s.Inv) {m : Memory} (hm : m.wf = true) : (s.setVram m).Inv :=
  ⟨hm, h.dec, h.wr, h.rd, h.cfg, h.dot, h.line⟩

theorem State.Inv.setDec {s : State} (h : s.Inv) {d : Decoder} (hd : d.wf) (hwr : d.state = .transfer → s.wr.wf) :
    (s.setDec d).Inv :=
  ⟨h.vram, hd, hwr, h.rd, h.cfg, h.dot, h.line⟩

theorem State.Inv.setWr {s : State} (h : s.Inv) {c : Cursor} (hc : s.dec.state = .transfer → c.wf) : (s.setWr c).Inv :=
  ⟨h.vram, h.dec, hc, h.rd, h.cfg, h.dot, h.line⟩

theorem State.Inv.setReadPath {s : State} (h : s.Inv) {c : Cursor} {m : ReadMode} (hc : m = .vramTransfer → c.wf) :
    ((s.setRd c).setReadMode m).Inv :=
  ⟨h.vram, h.dec, h.wr, hc, h.cfg, h.dot, h.line⟩

theorem State.Inv.setTiming {s : State} (h : s.Inv) {t : Timing} (hdot : t.dot < s.cfg.dotsPerLine)
    (hline : t.line < max 263 s.cfg.linesTotalPal) : (s.setTiming t).Inv :=
  ⟨h.vram, h.dec, h.wr, h.rd, h.cfg, hdot, hline⟩

theorem State.Inv.emit {s : State} (h : s.Inv) (es : List Emission) : (s.emit es).Inv := h.setUnconstrained ..

/-- A dispatch that ends idle keeps the invariant whatever decoder it clears: the one of a completed command is none the
invariant allows (40_command_decoder R136). -/
theorem State.Inv.dispatched_idle {s : State} (h : s.Inv) (d : Decoder) : ((s.setDec d).dispatched .idle).Inv :=
  h.setDec (Decoder.wf_cleared d nofun) nofun

/-- A dispatch that ends in `Transfer` needs its rectangle armed (43_vram_copy R244). -/
theorem State.Inv.dispatched_transfer {s : State} (h : s.Inv) (d : Decoder) {c : Cursor} (hc : c.wf) :
    (((s.setDec d).setWr c).dispatched .transfer).Inv :=
  (h.setWr fun _ => hc).setDec (Decoder.wf_cleared d nofun) fun _ => hc

theorem State.Inv.reservedCheck {s : State} (h : s.Inv) (op : Opcode) (r : Color) : (reservedCheck op r s).Inv := by
  rw [reservedCheck_eq]
  exact h.setUnconstrained ..

theorem State.Inv.copyOrAbort {s : State} (h : s.Inv) (src dst size : PairWord) : (copyOrAbort src dst size s).Inv := by
  unfold Machine.copyOrAbort
  split
  · exact h.setUnconstrained ..
  · exact h.setVram (copyVram_wf _ _ _ _ _ h.vram)

/-! ## The invariant under each way a step goes on -/

theorem inv_of_control {w : Word} {s t : State} (h : s.Inv) (ht : ControlNext w s t) : t.Inv := by
  obtain ⟨⟨hvram, -, htiming, -, -, hcfg, -⟩, hdec, hread, -⟩ := ht
  have hidle : t.dec = s.dec.cleared .idle → t.dec.wf ∧ (t.dec.state = .transfer → t.wr.wf) := by
    intro he
    rw [he]
    exact ⟨Decoder.wf_cleared _ nofun, nofun⟩
  obtain ⟨hdecwf, hwrwf⟩ : t.dec.wf ∧ (t.dec.state = .transfer → t.wr.wf) := by
    rcases hdec with ⟨he, hwr⟩ | ⟨-, he⟩ | ⟨-, he⟩
    · rw [he, hwr]
      exact ⟨h.dec, h.wr⟩
    · exact hidle he
    · exact hidle he
  have hrd : t.readMode = .vramTransfer → t.rd.wf := by
    rcases hread with ⟨hm, hc⟩ | hm
    · rw [hm, hc]
      exact h.rd
    · exact fun he => absurd he hm
  exact {
    vram := hvram ▸ h.vram
    dec := hdecwf
    wr := hwrwf
    rd := hrd
    cfg := hcfg ▸ h.cfg
    dot := by rw [htiming, hcfg]; exact h.dot
    line := by rw [htiming, hcfg]; exact h.line }

theorem inv_of_readData {s t : State} (h : s.Inv) (ht : exec .readData s = .next t) : t.Inv := by
  obtain ⟨w, c, m, l, he, rfl⟩ := readData_next ht
  have hc : m = .vramTransfer → c.wf := by
    have hport := readDataPort_rd_wf h.rd
    rwa [he] at hport
  exact (h.setReadPath hc).setUnconstrained ..

theorem inv_of_elapse {n : Nat} {s t : State} (h : s.Inv) (ht : exec (.step n) s = .next t) : t.Inv := by
  rw [step_cycles_next ht]
  have hdot : (elapseTiming n s).1.dot < s.cfg.dotsPerLine := by
    rw [elapseTiming_dot]
    exact Nat.mod_lt _ (dotsPerLine_pos h.cfg)
  exact (h.setTiming hdot (elapseTiming_line_lt n s)).setUnconstrained ..

/-- A command word leaves room for at least one argument (40_command_decoder R131, R140). -/
theorem State.Inv.startCommand {s : State} (h : s.Inv) {k : DecKind} {w : Word} (hk : kindOf (opOf w) = some k) :
    (startCommand k w s).Inv :=
  h.setDec ((Decoder.wf_iff_of_accum rfl).2 ⟨hk, rfl, (argCount_bounds (opOf w) (by simp [hk])).1⟩) nofun

/-- The reserved-field check reads no decoder. -/
theorem reservedCheck_setDec (op : Opcode) (r : Color) (d : Decoder) (s : State) :
    reservedCheck op r (s.setDec d) = (reservedCheck op r s).setDec d := by
  simp only [reservedCheck_eq]
  rfl

/-- A copy between cells reads no decoder. -/
theorem copyOrAbort_setDec (src dst size : PairWord) (d : Decoder) (s : State) :
    copyOrAbort src dst size (s.setDec d) = (copyOrAbort src dst size s).setDec d := by
  unfold copyOrAbort
  split <;> rfl

/-- A dispatched command, from a decoder `d` that the invariant need not allow: every dispatch clears it. -/
theorem inv_of_dispatch {k : DecKind} {w : Word} {d : Decoder} {s t : State} (h : s.Inv)
    (ht : DispatchNext k w (s.setDec d) t) : t.Inv := by
  cases ht with
  | fill _ c pos size ht =>
    rw [ht]
    exact (h.setVram (fillVram_wf c pos size h.vram)).dispatched_idle d
  | emit _ es ht =>
    rw [ht]
    exact (h.emit es).dispatched_idle d
  | copyVramVram _ src dst size ht =>
    rw [ht, reservedCheck_setDec, copyOrAbort_setDec]
    exact ((h.reservedCheck ..).copyOrAbort src dst size).dispatched_idle d
  | copyCpuVram _ dst size ht =>
    rw [ht, reservedCheck_setDec]
    exact (h.reservedCheck ..).dispatched_transfer d (transferOf_wf dst size)
  | copyVramCpu _ src size ht =>
    rw [ht, reservedCheck_setDec]
    exact ((h.reservedCheck ..).setReadPath fun _ => transferOf_wf src size).dispatched_idle d

/-- Pixel data in `Transfer`: the cursor stays in its rectangle, and the decoder holds no argument
(43_vram_copy R245 to R248). -/
theorem State.Inv.copyDataWord {s : State} (h : s.Inv) (hs : s.dec.state = .transfer) (w : Word) :
    (copyDataWord w s).Inv := by
  have hwr := copyDataWord_wr_wf w (h.wr hs)
  obtain ⟨m, c, d, he, hd, hm, -⟩ := copyDataWord_frame w s
  rw [he] at hwr ⊢
  have hlen : s.dec.argLen = 0 := (Decoder.wf_iff_of_not_accum (by simp [hs])).1 h.dec
  have hdec : d.wf := by
    rcases hd with rfl | rfl
    · exact h.dec
    · exact (Decoder.wf_iff_of_not_accum (d := { s.dec with state := .idle }) nofun).2 hlen
  exact ((h.setVram (hm h.vram)).setWr fun _ => hwr).setDec hdec fun _ => hwr

/-- Settles O17: by the ways a step answers a next state. -/
theorem everyStepKeepsInvariant : Obligations.EveryStepKeepsInvariant := by
  intro s t h hstep
  cases step_next hstep with
  | idle _ ht => exact ht ▸ h
  | control w rest _ ht => exact inv_of_control (h.setPending rest) (control_next ht)
  | readData rest _ ht => exact inv_of_readData (h.setPending rest) ht
  | readStatus rest _ ht =>
    rw [readStatus_next ht]
    exact (h.setPending rest).setUnconstrained ..
  | elapse n rest _ ht => exact inv_of_elapse (h.setPending rest) ht
  | backend x y v sm cm rest _ ht =>
    rw [backendWrite_next ht]
    exact (h.setPending rest).setVram (backendVram_wf x y v sm cm h.vram)
  | immediate w rest _ _ _ ht =>
    obtain ⟨b, es, rfl, -⟩ := immediate_next ht
    exact (h.setPending rest).setUnconstrained ..
  | start w rest k _ _ hk ht =>
    rw [ht]
    exact (h.setPending rest).startCommand hk
  | argument w rest _ hacc hn ht =>
    rw [ht]
    have hstate : (appendArgument s.cfg w s.dec).state = .accum := hacc
    exact (h.setPending rest).setDec (appendArgument_wf hacc h.dec hn) (by simp [hstate])
  | dispatch w rest i _ _ _ hk hd ht => exact inv_of_dispatch (h.setPending rest) (dispatch_next hk hd ht)
  | data w rest _ hs ht =>
    rw [ht]
    exact (h.setPending rest).copyDataWord hs w

end Sys2Proof.Machine
end

section
/-! SUPPORT. Who writes VRAM and what survives it (20_memory R63, R67, R69, R70, R73; 70_reset_and_hazards R405). -/

namespace Sys2Proof.Machine

/-! ## The port window -/

/-- The test on offset and size that reads and writes share, when it fails: neither port is meant. -/
theorem not_port_of_outside {offset : Nat} {size : AccessSize}
    (h : ((offset == 0 || offset == 4) && size == .word) = false) :
    ¬ (offset = 0 ∧ size = .word) ∧ ¬ (offset = 4 ∧ size = .word) := by
  constructor
  · rintro ⟨rfl, rfl⟩
    cases h
  · rintro ⟨rfl, rfl⟩
    cases h

/-- An access that is none of the six transaction kinds is refused when it is taken (20_memory R63). -/
theorem accept_undefined {t : Transaction} {s : State} (hf : s.fault = false) (h : isDefinedAccess t = false) :
    accept t s = .refuse .portAccess := by
  cases t with
  | write offset size w =>
    obtain ⟨h0, h4⟩ := not_port_of_outside h
    simp [accept, hf, h0, h4]
  | read offset size =>
    obtain ⟨h0, h4⟩ := not_port_of_outside h
    simp [accept, hf, h0, h4]
  | elapse cycles => cases h
  | backend x y v sm cm => cases h

/-- Settles O19: the access is refused when it is taken. -/
theorem otherPortAccessesAreRefused : Obligations.OtherPortAccessesAreRefused := by
  intro s t rest hf hp ht
  rw [step_cons hp, accept_undefined (s := s.setPending rest) hf ht]

/-! ## One pixel at mathematical coordinates -/

/-- The pixel at the coordinates of a cell is a masked write to that cell (20_memory R69, R73). -/
theorem backendVram_cell (px : BitVec 10) (py : BitVec 9) (v : Half) (sm cm : Bool) (m : Memory) :
    backendVram px.toNat py.toNat v sm cm m = m.fbWriteMasked px py v sm cm := by
  have hx := px.isLt
  have hy := py.isLt
  rw [backendVram, if_pos (by omega)]
  simp only [Int.toNat_natCast, BitVec.ofNat_toNat, BitVec.setWidth_eq]

/-- A pixel at the coordinates of no cell is dropped (20_memory R73). -/
theorem backendVram_outside {x y : Int} (h : ¬ ∃ (px : BitVec 10) (py : BitVec 9), x = px.toNat ∧ y = py.toNat)
    (v : Half) (sm cm : Bool) (m : Memory) : backendVram x y v sm cm m = m := by
  rw [backendVram, if_neg]
  intro hgrid
  refine h ⟨BitVec.ofNat 10 x.toNat, BitVec.ofNat 9 y.toNat, ?_⟩
  simp only [BitVec.toNat_ofNat]
  omega

/-- Coordinates name one cell. -/
theorem cell_coordinates_inj (px cx : BitVec 10) (py cy : BitVec 9) :
    ((px.toNat : Int) = cx.toNat ∧ (py.toNat : Int) = cy.toNat) ↔ cx = px ∧ cy = py := by
  simp only [Int.natCast_inj, BitVec.toNat_inj, eq_comm]

/-- Every cell after a backend write. -/
theorem fbRead_backendVram {m : Memory} (h : m.wf = true) (x y : Int) (v : Half) (sm cm : Bool) (cx : BitVec 10)
    (cy : BitVec 9) :
    (backendVram x y v sm cm m).fbRead cx cy =
      if x = cx.toNat ∧ y = cy.toNat ∧ ¬ (cm = true ∧ (m.fbRead cx cy).getLsbD 15 = true) then maskedValue v sm
      else m.fbRead cx cy := by
  by_cases hcell : ∃ (px : BitVec 10) (py : BitVec 9), x = px.toNat ∧ y = py.toNat
  · obtain ⟨px, py, rfl, rfl⟩ := hcell
    rw [backendVram_cell, Memory.fbRead_fbWriteMasked h]
    refine if_congr ?_ rfl rfl
    rw [← and_assoc, ← and_assoc, cell_coordinates_inj]
    refine and_congr_right ?_
    rintro ⟨rfl, rfl⟩
    rw [← Bool.and_eq_true, Bool.not_eq_true]
  · rw [backendVram_outside hcell, if_neg]
    rintro ⟨hx, hy, -⟩
    exact hcell ⟨cx, cy, hx, hy⟩

/-- Bytes outside the pixel's cell after a backend write. -/
theorem readByte_backendVram_of_ne {m : Memory} (h : m.wf = true) (x y : Int) (v : Half) (sm cm : Bool) {a : Nat}
    (ha : ∀ (cx : BitVec 10) (cy : BitVec 9), x = cx.toNat ∧ y = cy.toNat →
      a ≠ cellAddress cx cy ∧ a ≠ cellAddress cx cy + 1) :
    (backendVram x y v sm cm m).readByte a = m.readByte a := by
  by_cases hcell : ∃ (px : BitVec 10) (py : BitVec 9), x = px.toNat ∧ y = py.toNat
  · obtain ⟨px, py, rfl, rfl⟩ := hcell
    obtain ⟨hlow, hhigh⟩ := ha px py ⟨rfl, rfl⟩
    rw [backendVram_cell, Memory.readByte_fbWriteMasked_of_ne h _ _ _ _ _ hlow hhigh]
  · rw [backendVram_outside hcell]

/-- Settles O53: the memory is the one `backendVram` answers. -/
theorem backendWritesOneMaskedPixel : Obligations.BackendWritesOneMaskedPixel := by
  intro x y v sm cm s hf hwf
  exact ⟨backendVram x y v sm cm s.vram, backendVram_wf x y v sm cm hwf, State.commit_live hf,
    fbRead_backendVram hwf x y v sm cm, fun _ => readByte_backendVram_of_ne hwf x y v sm cm⟩

/-! ## What a step does to VRAM -/

/-- Everything a step can do to VRAM: leave it, or one of its four writers (20_memory R67). -/
inductive VramNext (s t : State) : Prop
  | kept (hv : t.vram = s.vram)
  | backend (x y : Int) (v : Half) (sm cm : Bool) (rest : List Transaction)
      (hp : s.pending = .backend x y v sm cm :: rest) (hv : t.vram = backendVram x y v sm cm s.vram)
  | data (w : Word) (rest : List Transaction) (hp : s.pending = .write 0 .word w :: rest)
      (hs : s.dec.state = .transfer) (hv : t.vram = (copyDataWord w (s.setPending rest)).vram)
  | fill (w : Word) (rest : List Transaction) (hp : s.pending = .write 0 .word w :: rest)
      (hs : s.dec.state = .accum) (hk : s.dec.kind = .fill) (c : Color) (pos size : PairWord)
      (hv : t.vram = fillVram c pos size s.vram)
  | copy (w : Word) (rest : List Transaction) (hp : s.pending = .write 0 .word w :: rest)
      (hs : s.dec.state = .accum) (hk : s.dec.kind = .copyVramVram) (src dst size : PairWord)
      (hv : t.vram = copyVram s.bank.setMask s.bank.checkMask src dst size s.vram)

theorem reservedCheck_vram (op : Opcode) (r : Color) (s : State) : (reservedCheck op r s).vram = s.vram := by
  rw [reservedCheck_eq]

theorem reservedCheck_bank (op : Opcode) (r : Color) (s : State) : (reservedCheck op r s).bank = s.bank := by
  rw [reservedCheck_eq]

/-- A copy that is not aborted is the only thing `copyOrAbort` does to VRAM (43_vram_copy R252, R253). -/
theorem copyOrAbort_vram (src dst size : PairWord) (s : State) :
    (copyOrAbort src dst size s).vram =
      if copyOutOfBounds size then s.vram else copyVram s.bank.setMask s.bank.checkMask src dst size s.vram := by
  unfold copyOrAbort
  split <;> rfl

/-- What a dispatched command does to VRAM: of the classes, only the fill and the copy between cells write it. -/
theorem vram_of_dispatch {k : DecKind} {w : Word} {s t : State} (h : DispatchNext k w s t) :
    t.vram = s.vram
    ∨ (k = .fill ∧ ∃ c pos size, t.vram = fillVram c pos size s.vram)
    ∨ (k = .copyVramVram ∧ ∃ src dst size,
        t.vram = copyVram s.bank.setMask s.bank.checkMask src dst size s.vram) := by
  cases h with
  | fill hk c pos size ht => exact .inr (.inl ⟨hk, c, pos, size, congrArg State.vram ht⟩)
  | emit _ es ht =>
    subst ht
    exact .inl rfl
  | copyVramVram hk src dst size ht =>
    have hv : t.vram = (copyOrAbort src dst size (reservedCheck 0x80#8 (colorOf w) s)).vram := by
      rw [ht, State.dispatched_vram]
    rw [copyOrAbort_vram, reservedCheck_vram, reservedCheck_bank] at hv
    split at hv
    case isTrue => exact .inl hv
    case isFalse => exact .inr (.inr ⟨hk, src, dst, size, hv⟩)
  | copyCpuVram _ dst size ht =>
    exact .inl ((congrArg State.vram ht).trans (reservedCheck_vram ..))
  | copyVramCpu _ src size ht =>
    exact .inl ((congrArg State.vram ht).trans (reservedCheck_vram ..))

/-- Of the ways a step answers a next state, three write VRAM: a backend write, a data word, a dispatch. -/
theorem step_vram {s t : State} (h : step s = .next t) : VramNext s t := by
  cases step_next h with
  | idle _ ht => exact .kept (congrArg State.vram ht)
  | control w rest _ ht =>
    obtain ⟨hv, -⟩ := (control_next ht).frame
    exact .kept hv
  | readData rest _ ht =>
    obtain ⟨_, _, _, _, _, rfl⟩ := readData_next ht
    exact .kept rfl
  | readStatus rest _ ht =>
    obtain rfl := readStatus_next ht
    exact .kept rfl
  | elapse n rest _ ht =>
    obtain rfl := step_cycles_next ht
    exact .kept rfl
  | backend x y v sm cm rest hp ht =>
    exact .backend x y v sm cm rest hp (congrArg State.vram (backendWrite_next ht))
  | immediate w rest _ _ _ ht =>
    obtain ⟨_, _, rfl, -⟩ := immediate_next ht
    exact .kept rfl
  | start w rest k _ _ _ ht =>
    subst ht
    exact .kept rfl
  | argument w rest _ _ _ ht =>
    subst ht
    exact .kept rfl
  | dispatch w rest i hp hs _ hk hd ht =>
    rcases vram_of_dispatch (dispatch_next hk hd ht) with hv | ⟨hkind, c, pos, size, hv⟩ | ⟨hkind, src, dst, size, hv⟩
    · exact .kept hv
    · exact .fill w rest hp hs hkind c pos size hv
    · exact .copy w rest hp hs hkind src dst size hv
  | data w rest hp hs ht => exact .data w rest hp hs (congrArg State.vram ht)

/-- Settles O56: by what a step does to VRAM. -/
theorem vramHasFourWriters : Obligations.VramHasFourWriters := by
  intro s t h hne
  cases step_vram h with
  | kept hv => exact absurd hv hne
  | backend x y v sm cm rest hp => exact .inl ⟨x, y, v, sm, cm, rest, hp⟩
  | data w rest hp hs => exact .inr ⟨w, rest, hp, .inl hs⟩
  | fill w rest hp hs hk => exact .inr ⟨w, rest, hp, .inr ⟨hs, .inl hk⟩⟩
  | copy w rest hp hs hk => exact .inr ⟨w, rest, hp, .inr ⟨hs, .inr hk⟩⟩

/-- Settles O57: the two writers that are left, data words and the copy between cells, write under the mask check. -/
theorem maskedCellsAreProtected : Obligations.MaskedCellsAreProtected := by
  intro s t x y hinv h hcheck hmask hfill hbackend
  cases step_vram h with
  | kept hv => rw [hv]
  | backend bx bc v sm cm rest hp => exact absurd hp (hbackend bx bc v sm cm rest)
  | data w rest hp hs hv =>
    obtain ⟨m, c, d, he, -, -, hprotected⟩ := copyDataWord_frame w (s.setPending rest)
    rw [hv, he]
    exact hprotected x y hinv.vram hcheck hmask
  | fill w rest hp hs hk => exact absurd ⟨hs, hk⟩ hfill
  | copy w rest hp hs hk src dst size hv =>
    rw [hv, hcheck]
    exact copyVram_protected s.bank.setMask src dst size hinv.vram x y hmask

end Sys2Proof.Machine
end

section
/-! SUPPORT. The rows of the draw port and of the control port that carry their whole word, and the unknown class
(30_encoding R114 to R119). -/

namespace Sys2Proof

/-! ## Rows that carry their whole word -/

theorem opOf_and (a b : Word) : opOf (a &&& b) = opOf a &&& opOf b := BitVec.extractLsb'_and ..
theorem colorOf_and (a b : Word) : colorOf (a &&& b) = colorOf a &&& colorOf b := BitVec.extractLsb'_and ..
theorem op1Of_and (a b : Word) : op1Of (a &&& b) = op1Of a &&& op1Of b := BitVec.extractLsb'_and ..

/-- A word is given by its opcode and its parameter. -/
theorem eq_of_opOf_of_colorOf {a b : Word} (ho : opOf a = opOf b) (hc : colorOf a = colorOf b) : a = b := by
  rw [← opOf_append_colorOf a, ho, hc, opOf_append_colorOf]

/-- A draw-port row looks at the opcode only (30_encoding R91). -/
theorem fitsRow_iff_opOf {mask pattern w : Word} (hm : colorOf mask = 0#24) (hp : colorOf pattern = 0#24) :
    fitsRow mask pattern w = true ↔ opOf w &&& opOf mask = opOf pattern := by
  rw [fitsRow, beq_iff_eq]
  constructor
  · intro h
    rw [← opOf_and, h]
  · intro h
    exact eq_of_opOf_of_colorOf (by rw [opOf_and, h]) (by rw [colorOf_and, hm, hp, BitVec.and_zero])

/-- The bits of a control word: its argument below its opcode below two zeros (30_encoding R114). -/
theorem getLsbD_append_controlWord (op1 : BitVec 6) (arg : BitVec 24) (k : Nat) :
    (0#2 ++ (op1 ++ arg)).getLsbD k = if k < 24 then arg.getLsbD k else op1.getLsbD (k - 24) := by
  rw [BitVec.getLsbD_append, BitVec.getLsbD_append, BitVec.getLsbD_zero]
  split
  · rfl
  · rw [if_neg (by omega), BitVec.getLsbD_of_ge _ _ (by omega)]

/-- A mask that only looks at the opcode leaves the control word of that opcode, with argument 0. -/
theorem and_controlWord (op1 : BitVec 6) (w : Word) :
    w &&& controlWord op1 0#24 = controlWord (op1Of w &&& op1) 0#24 := by
  apply BitVec.eq_of_getLsbD_eq
  intro k hk
  rw [BitVec.getLsbD_and, controlWord, controlWord, getLsbD_append_controlWord, getLsbD_append_controlWord]
  split
  · simp
  · by_cases hop : k - 24 < 6
    · simp [op1Of, hop, show 24 + (k - 24) = k by omega]
    · simp [BitVec.getLsbD_of_ge _ _ (Nat.le_of_not_lt hop)]

/-- A control-port row looks at the low six bits of the opcode only (30_encoding R114). -/
theorem fitsRow_iff_op1Of {mask pattern w : Word} (hm : mask = controlWord (op1Of mask) 0#24)
    (hp : pattern = controlWord (op1Of pattern) 0#24) :
    fitsRow mask pattern w = true ↔ op1Of w &&& op1Of mask = op1Of pattern := by
  rw [fitsRow, beq_iff_eq]
  constructor
  · intro h
    rw [← op1Of_and, h]
  · intro h
    rw [hm, and_controlWord, h, ← hp]

/-- A control-port row of one opcode. -/
theorem fitsRow_iff_op1Of_eq {pattern w : Word} (hp : pattern = controlWord (op1Of pattern) 0#24) :
    fitsRow 0x3F000000#32 pattern w = true ↔ op1Of w = op1Of pattern := by
  rw [fitsRow_iff_op1Of rfl hp, show op1Of 0x3F000000#32 = BitVec.allOnes 6 from rfl, BitVec.and_allOnes]

/-- A word with a control opcode is of the row of that opcode. -/
theorem fitsRow_of_op1Of {pattern w : Word} (hp : pattern = controlWord (op1Of pattern) 0#24)
    (h : (op1Of w).toNat = (op1Of pattern).toNat) : fitsRow 0x3F000000#32 pattern w = true :=
  (fitsRow_iff_op1Of_eq hp).2 (BitVec.eq_of_toNat_eq h)

/-- The upper half of the control opcodes is one row (30_encoding R119). -/
theorem fitsRow_high_iff {w : Word} :
    fitsRow 0x20000000#32 0x20000000#32 w = true ↔ (op1Of w).getLsbD 5 = true := by
  have hbit : ∀ op1 : BitVec 6, op1 &&& 0x20#6 = 0x20#6 ↔ op1.getLsbD 5 = true := by decide
  exact (fitsRow_iff_op1Of rfl rfl).trans (hbit _)

/-! ## The unknown class -/

/-- The 147 unknown opcodes (30_encoding R118). -/
abbrev IsUnknownOpcode (op : Opcode) : Prop :=
  (0x03 ≤ op.toNat ∧ op.toNat ≤ 0x1E) ∨ (0x81 ≤ op.toNat ∧ op.toNat ≤ 0x9F) ∨ (0xA1 ≤ op.toNat ∧ op.toNat ≤ 0xBF)
    ∨ (0xC1 ≤ op.toNat ∧ op.toNat ≤ 0xE0) ∨ 0xE7 ≤ op.toNat

theorem decodeImmediate_of_unknown {w : Word} (h : IsUnknownOpcode (opOf w)) :
    decodeImmediate w = decodeUnknown (opOf w) w := by
  unfold IsUnknownOpcode at h
  unfold decodeImmediate
  split
  case h_10 => rfl
  all_goals omega

set_option maxRecDepth 100000 in
/-- Every unknown opcode is of a single-word class (30_encoding R93). -/
theorem kindOf_of_unknown : ∀ op : Opcode, IsUnknownOpcode op → kindOf op = none := by decide

set_option maxRecDepth 100000 in
/-- An opcode of the single-word classes is unknown or one of the nine of 30_encoding R108 to R112. -/
theorem unknown_or_immediate : ∀ op : Opcode, kindOf op = none →
    IsUnknownOpcode op ∨ op.toNat = 0x00 ∨ op.toNat = 0x01 ∨ op.toNat = 0x1F ∨ op.toNat = 0xE1 ∨ op.toNat = 0xE2
      ∨ op.toNat = 0xE3 ∨ op.toNat = 0xE4 ∨ op.toNat = 0xE5 ∨ op.toNat = 0xE6 := by decide

set_option maxRecDepth 100000 in
/-- The 26 rows of the unknown class hold every unknown opcode (30_encoding R118). -/
theorem unknown_rows : ∀ op : Opcode, IsUnknownOpcode op →
    op &&& 0xFF#8 = 0x03#8 ∨ op &&& 0xFC#8 = 0x04#8 ∨ op &&& 0xF8#8 = 0x08#8 ∨ op &&& 0xF8#8 = 0x10#8
    ∨ op &&& 0xFC#8 = 0x18#8 ∨ op &&& 0xFE#8 = 0x1C#8 ∨ op &&& 0xFF#8 = 0x1E#8 ∨ op &&& 0xFF#8 = 0x81#8
    ∨ op &&& 0xFE#8 = 0x82#8 ∨ op &&& 0xFC#8 = 0x84#8 ∨ op &&& 0xF8#8 = 0x88#8 ∨ op &&& 0xF0#8 = 0x90#8
    ∨ op &&& 0xFF#8 = 0xA1#8 ∨ op &&& 0xFE#8 = 0xA2#8 ∨ op &&& 0xFC#8 = 0xA4#8 ∨ op &&& 0xF8#8 = 0xA8#8
    ∨ op &&& 0xF0#8 = 0xB0#8 ∨ op &&& 0xFF#8 = 0xC1#8 ∨ op &&& 0xFE#8 = 0xC2#8 ∨ op &&& 0xFC#8 = 0xC4#8
    ∨ op &&& 0xF8#8 = 0xC8#8 ∨ op &&& 0xF0#8 = 0xD0#8 ∨ op &&& 0xFF#8 = 0xE0#8 ∨ op &&& 0xFF#8 = 0xE7#8
    ∨ op &&& 0xF8#8 = 0xE8#8 ∨ op &&& 0xF0#8 = 0xF0#8 := by decide

/-! ## The chain of unknown rows -/

/-- An opcode of one row is of no row that differs from it in a bit both look at. -/
theorem and_ne_of_row {op m p m' p' : Opcode} (h : op &&& m = p) (hd : p &&& m' ≠ p' &&& m) : op &&& m' ≠ p' := by
  rintro rfl
  exact hd (by rw [← h, BitVec.and_assoc, BitVec.and_assoc, BitVec.and_comm m])

/-- The decoder's chain of rows goes past a row that the word's row excludes. -/
theorem row_other {α : Type} {op m p m' p' : Opcode} {a b : α} (h : op &&& m = p) (hd : p &&& m' ≠ p' &&& m) :
    (if op &&& m' = p' then a else b) = b := if_neg (and_ne_of_row h hd)

/-- The decoder's chain of rows ends at the word's own row. -/
theorem row_own {α : Type} {op m p m' p' : Opcode} {a b : α} (h : op &&& m = p) (hm : m' = m) (hp : p' = p) :
    (if op &&& m' = p' then a else b) = a := by rw [hm, hp, if_pos h]

/-- A row whose opcodes are all unknown holds unknown words. -/
theorem unknown_of_fitsRow {mask pattern w : Word} (hm : colorOf mask = 0#24) (hp : colorOf pattern = 0#24)
    (hrow : ∀ op : Opcode, op &&& opOf mask = opOf pattern → IsUnknownOpcode op)
    (h : fitsRow mask pattern w = true) : IsUnknownOpcode (opOf w) := hrow _ ((fitsRow_iff_opOf hm hp).1 h)

set_option maxRecDepth 100000 in
/-- The word of an instruction of the unknown class has an unknown opcode. -/
theorem unknown_of_isUnknown {i : Instr} {w : Word} (hu : i.isUnknown = true) (hwf : i.wellFormed = true)
    (he : encode i = [.write 0 .word w]) : IsUnknownOpcode (opOf w) := by
  cases i
  all_goals
    first
    | (cases hu; done)
    | (cases he; exact unknown_of_fitsRow rfl rfl (by decide) hwf)

/-- The word of an instruction of the unknown class is of no row before its own in the decoder's chain. -/
theorem decodeUnknown_of_isUnknown {i : Instr} {w : Word} (hu : i.isUnknown = true) (hwf : i.wellFormed = true)
    (he : encode i = [.write 0 .word w]) : decodeUnknown (opOf w) w = i := by
  cases i
  case unknownF0_FF =>
    -- The last row has no test of its own.
    cases he
    have h := (fitsRow_iff_opOf rfl rfl).1 hwf
    simp (disch := decide) only [decodeUnknown, row_other h]
  all_goals
    first
    | (cases hu; done)
    | (cases he
       have h := (fitsRow_iff_opOf rfl rfl).1 hwf
       simp (disch := decide) only [decodeUnknown, row_other h, row_own h])

/-! ## The upper half of the control opcodes -/

theorem decodeGp1_high {w : Word} (h : (op1Of w).getLsbD 5 = true) : decodeGp1 w = .gp1Unrecognized20_3F w := by
  have hge : ∀ op1 : BitVec 6, op1.getLsbD 5 = true → 0x20 ≤ op1.toNat := by decide
  have := hge _ h
  unfold decodeGp1
  split
  case h_17 => rw [if_pos h]
  all_goals omega

end Sys2Proof
end

section
/-! SUPPORT. Decoding what the encoder writes, by family of instructions. -/

namespace Sys2Proof

/-! ## Draw commands with argument words -/

theorem decode_polygonCommand {op : Opcode} (hk : kindOf op = some .polygon) (c : Color) (args : List Word) :
    decode (drawCommand op c args) = decodePolygon op c args := by
  rw [decode_drawCommand, decodeGp0_polygon (by rw [opOf_commandWord, hk]), opOf_commandWord, colorOf_commandWord]

theorem decode_lineCommand {op : Opcode} (hk : kindOf op = some .line) (c : Color) (args : List Word) :
    decode (drawCommand op c args) = decodeLine op c args := by
  rw [decode_drawCommand, decodeGp0_line (by rw [opOf_commandWord, hk]), opOf_commandWord, colorOf_commandWord]

theorem decode_rectCommand {op : Opcode} (hk : kindOf op = some .rect) (c : Color) (args : List Word) :
    decode (drawCommand op c args) = decodeRect op c args := by
  rw [decode_drawCommand, decodeGp0_rect (by rw [opOf_commandWord, hk]), opOf_commandWord, colorOf_commandWord]

theorem decode_encode_polygon {i : Instr} (h : i.isPolygon = true) : decode (encode i) = .ok i := by
  cases i
  case polyF3 | polyF3R | polyF3S | polyF3SR =>
    exact (decode_polygonCommand rfl _ _).trans (by simp [decodePolygon, takeFlat3])
  case polyFT3 | polyFT3R | polyFT3S | polyFT3SR =>
    exact (decode_polygonCommand rfl _ _).trans (by simp [decodePolygon, takeFlatTex3])
  case polyF4 | polyF4R | polyF4S | polyF4SR =>
    exact (decode_polygonCommand rfl _ _).trans (by simp [decodePolygon, takeFlat4])
  case polyFT4 | polyFT4R | polyFT4S | polyFT4SR =>
    exact (decode_polygonCommand rfl _ _).trans (by simp [decodePolygon, takeFlatTex4])
  case polyG3 | polyG3R | polyG3S | polyG3SR =>
    exact (decode_polygonCommand rfl _ _).trans (by simp [decodePolygon, takeGouraud3])
  case polyGT3 | polyGT3R | polyGT3S | polyGT3SR =>
    exact (decode_polygonCommand rfl _ _).trans (by simp [decodePolygon, takeGouraudTex3])
  case polyG4 | polyG4R | polyG4S | polyG4SR =>
    exact (decode_polygonCommand rfl _ _).trans (by simp [decodePolygon, takeGouraud4])
  case polyGT4 | polyGT4R | polyGT4S | polyGT4SR =>
    exact (decode_polygonCommand rfl _ _).trans (by simp [decodePolygon, takeGouraudTex4])
  all_goals cases h

theorem decode_encode_line {i : Instr} (h : i.isLine = true) : decode (encode i) = .ok i := by
  cases i
  case lineF | lineF41 | lineFS | lineFS43 | lineF44 | lineF45 | lineFS46 | lineFS47 =>
    exact (decode_lineCommand rfl _ _).trans (by simp [decodeLine, takeLineFlat])
  case lineG | lineG51 | lineGS | lineGS53 | lineG54 | lineG55 | lineGS56 | lineGS57 =>
    exact (decode_lineCommand rfl _ _).trans (by simp [decodeLine, takeLineGouraud])
  all_goals cases h

theorem decode_encode_polyline {i : Instr} (h : i.isPolyline = true) (hwf : i.wellFormed = true) :
    decode (encode i) = .ok i := by
  cases i
  case plineF | plineF49 | plineFS | plineFS4B | plineF4C | plineF4D | plineFS4E | plineFS4F | plineG | plineG59
      | plineGS | plineGS5B | plineG5C | plineG5D | plineGS5E | plineGS5F =>
    exact (decode_lineCommand rfl _ _).trans (takePolyline_of_fits hwf)
  all_goals cases h

theorem decode_encode_rect {i : Instr} (h : i.isRect = true) : decode (encode i) = .ok i := by
  cases i
  case rectV | rectVR | rectVS | rectVSR =>
    exact (decode_rectCommand rfl _ _).trans (by simp [decodeRect, takeRectSized])
  case rectVT | rectVTR | rectVTS | rectVTSR =>
    exact (decode_rectCommand rfl _ _).trans (by simp [decodeRect, takeRectTexSized])
  case rect1 | rect1R | rect1S | rect1SR | rect8 | rect8R | rect8S | rect8SR | rect16 | rect16R | rect16S | rect16SR =>
    exact (decode_rectCommand rfl _ _).trans (by simp [decodeRect, takeRect])
  case rect1T | rect1TR | rect1TS | rect1TSR | rect8T | rect8TR | rect8TS | rect8TSR | rect16T | rect16TR | rect16TS
      | rect16TSR =>
    exact (decode_rectCommand rfl _ _).trans (by simp [decodeRect, takeRectTex])
  all_goals cases h

theorem decode_encode_fillRect (c : Color) (pos size : PairWord) :
    decode (encode (.fillRect c pos size)) = .ok (.fillRect c pos size) := by
  rw [encode, decode_drawCommand, decodeGp0_fill (by rw [opOf_commandWord]; rfl)]
  simp [takePairs2]

theorem decode_encode_copyVramVram (reserved : Color) (src dst size : PairWord) :
    decode (encode (.copyVramVram reserved src dst size)) = .ok (.copyVramVram reserved src dst size) := by
  rw [encode, decode_drawCommand, decodeGp0_copyVramVram (by rw [opOf_commandWord]; rfl)]
  simp [takePairs3]

theorem decode_encode_copyCpuVram (reserved : Color) (dst size : PairWord) :
    decode (encode (.copyCpuVram reserved dst size)) = .ok (.copyCpuVram reserved dst size) := by
  rw [encode, decode_drawCommand, decodeGp0_copyCpuVram (by rw [opOf_commandWord]; rfl)]
  simp [takePairs2]

theorem decode_encode_copyVramCpu (reserved : Color) (src size : PairWord) :
    decode (encode (.copyVramCpu reserved src size)) = .ok (.copyVramCpu reserved src size) := by
  rw [encode, decode_drawCommand, decodeGp0_copyVramCpu (by rw [opOf_commandWord]; rfl)]
  simp [takePairs2]

/-! ## Single-word draw commands -/

theorem decode_immediateCommand {op : Opcode} (hk : kindOf op = none) (p : Color) :
    decode (drawCommand op p []) = .ok (decodeImmediate (commandWord op p)) := by
  rw [decode_drawCommand, decodeGp0_of_none (by rw [opOf_commandWord, hk])]

theorem decode_encode_unknown {i : Instr} {w : Word} (hu : i.isUnknown = true) (hwf : i.wellFormed = true)
    (he : encode i = [.write 0 .word w]) : decode (encode i) = .ok i := by
  have hop := unknown_of_isUnknown hu hwf he
  calc
    decode (encode i) = decodeGp0 w [] := he ▸ decode_drawWrites w []
    _ = .ok (decodeImmediate w) := decodeGp0_of_none (kindOf_of_unknown _ hop)
    _ = .ok i := by rw [decodeImmediate_of_unknown hop, decodeUnknown_of_isUnknown hu hwf he]

/-- The low field of two below some zeros. -/
theorem extract_packed_low (r : Nat) {m n : Nat} (x : BitVec m) (y : BitVec n) :
    (0#r ++ (y ++ x)).extractLsb' 0 m = x :=
  (extract_append_low _ _ (by omega)).trans (extract_append_right y x)

/-- The high field of two below some zeros. -/
theorem extract_packed_high (r : Nat) {m n : Nat} (x : BitVec m) (y : BitVec n) :
    (0#r ++ (y ++ x)).extractLsb' m n = y :=
  (extract_append_low _ _ (by omega)).trans (extract_append_left y x)

/-- The parameter of a command word, in part. -/
theorem extract_param (op : Opcode) (p : Color) {k j : Nat} (h : k + j ≤ 24) :
    (commandWord op p).extractLsb' k j = p.extractLsb' k j := extract_commandWord op p k j h

theorem decode_encode_setDrawMode (param : BitVec 24) :
    decode (encode (.setDrawMode param)) = .ok (.setDrawMode param) := by
  rw [encode, decode_immediateCommand rfl]
  simp [decodeImmediate, extract_param]

theorem decode_encode_setTexWindow (param : BitVec 24) :
    decode (encode (.setTexWindow param)) = .ok (.setTexWindow param) := by
  rw [encode, decode_immediateCommand rfl]
  simp [decodeImmediate, extract_param]

theorem decode_encode_setClipTl (x y : BitVec 10) : decode (encode (.setClipTl x y)) = .ok (.setClipTl x y) := by
  rw [encode, decode_immediateCommand rfl]
  simp [decodeImmediate, extract_param, extract_packed_low 4 x y, extract_packed_high 4 x y]

theorem decode_encode_setClipBr (x y : BitVec 10) : decode (encode (.setClipBr x y)) = .ok (.setClipBr x y) := by
  rw [encode, decode_immediateCommand rfl]
  simp [decodeImmediate, extract_param, extract_packed_low 4 x y, extract_packed_high 4 x y]

theorem decode_encode_setOffset (x y : BitVec 11) : decode (encode (.setOffset x y)) = .ok (.setOffset x y) := by
  rw [encode, decode_immediateCommand rfl]
  simp [decodeImmediate, extract_param, extract_packed_low 2 x y, extract_packed_high 2 x y]

theorem decode_encode_setMask :
    ∀ setBit checkBit : Bool, decode (encode (.setMask setBit checkBit)) = .ok (.setMask setBit checkBit) := by
  decide

/-! ## Control commands -/

/-- The argument of a control word, in part. -/
theorem extract_argument (op1 : BitVec 6) (arg : BitVec 24) {k j : Nat} (h : k + j ≤ 24) :
    (controlWord op1 arg).extractLsb' k j = arg.extractLsb' k j := extract_controlWord 0#2 op1 arg k j h

theorem decode_encode_displayEnable :
    ∀ off : Bool, decode (encode (.displayEnable off)) = .ok (.displayEnable off) := by
  decide

theorem decode_encode_texDisableAllow :
    ∀ allow : Bool, decode (encode (.texDisableAllow allow)) = .ok (.texDisableAllow allow) := by
  decide

theorem decode_encode_dmaDirection (dir : BitVec 2) :
    decode (encode (.dmaDirection dir)) = .ok (.dmaDirection dir) := by
  rw [encode, decode_controlCommand]
  simp [decodeGp1, extract_argument, extract_append_right 0#22 dir]

theorem decode_encode_displayStart (x : BitVec 10) (y : BitVec 9) :
    decode (encode (.displayStart x y)) = .ok (.displayStart x y) := by
  rw [encode, decode_controlCommand]
  simp [decodeGp1, extract_argument, extract_packed_low 5 x y, extract_packed_high 5 x y]

theorem decode_encode_hRange (x1 x2 : BitVec 12) : decode (encode (.hRange x1 x2)) = .ok (.hRange x1 x2) := by
  rw [encode, decode_controlCommand]
  simp [decodeGp1, extract_argument, extract_append_right x2 x1, extract_append_left x2 x1]

theorem decode_encode_vRange (y1 y2 : BitVec 10) : decode (encode (.vRange y1 y2)) = .ok (.vRange y1 y2) := by
  rw [encode, decode_controlCommand]
  simp [decodeGp1, extract_argument, extract_packed_low 4 y1 y2, extract_packed_high 4 y1 y2]

theorem decode_encode_displayMode (arg : BitVec 24) :
    decode (encode (.displayMode arg)) = .ok (.displayMode arg) := by
  rw [encode, decode_controlCommand]
  simp [decodeGp1, extract_argument]

theorem decode_encode_resetCmdbuf {w : Word} (hwf : (Instr.resetCmdbuf w).wellFormed = true) :
    decode (encode (.resetCmdbuf w)) = .ok (.resetCmdbuf w) := by
  rw [encode, decode_control, decodeGp1, (fitsRow_iff_op1Of_eq rfl).1 hwf]
  rfl

theorem decode_encode_unrecognized {i : Instr} (hu : i.isUnrecognized = true) (hwf : i.wellFormed = true) :
    decode (encode i) = .ok i := by
  cases i
  case gp1Unrecognized20_3F w =>
    rw [encode, decode_control, decodeGp1_high (fitsRow_high_iff.1 hwf)]
  all_goals
    first
    | (cases hu; done)
    | (rw [encode, decode_control, decodeGp1, (fitsRow_iff_op1Of_eq rfl).1 hwf]; rfl)

/-! ## The round trip -/

/-- Settles O6: by the family of the instruction. -/
theorem decodeOfEncode : Obligations.DecodeOfEncode := by
  intro i hwf
  cases i
  case fillRect => exact decode_encode_fillRect ..
  case copyVramVram => exact decode_encode_copyVramVram ..
  case copyCpuVram => exact decode_encode_copyCpuVram ..
  case copyVramCpu => exact decode_encode_copyVramCpu ..
  case setDrawMode => exact decode_encode_setDrawMode _
  case setTexWindow => exact decode_encode_setTexWindow _
  case setClipTl => exact decode_encode_setClipTl ..
  case setClipBr => exact decode_encode_setClipBr ..
  case setOffset => exact decode_encode_setOffset ..
  case setMask => exact decode_encode_setMask ..
  case resetCmdbuf => exact decode_encode_resetCmdbuf hwf
  case displayEnable => exact decode_encode_displayEnable _
  case dmaDirection => exact decode_encode_dmaDirection _
  case displayStart => exact decode_encode_displayStart ..
  case hRange => exact decode_encode_hRange ..
  case vRange => exact decode_encode_vRange ..
  case displayMode => exact decode_encode_displayMode _
  case texDisableAllow => exact decode_encode_texDisableAllow _
  case nop | clearCache | irqRequest | reset | ackIrq | getInfoNone0 | getInfoNone1 | getInfoTexWindow | getInfoClipTl
      | getInfoClipBr | getInfoOffset | getInfoNone6 | getInfoVersion | getInfoZero | getInfoNone9 | getInfoNoneA
      | getInfoNoneB | getInfoNoneC | getInfoNoneD | getInfoNoneE | getInfoNoneF | readData | readStatus | step
      | backendWrite => rfl
  -- The six families that `Instr.isPolygon` to `Instr.isUnrecognized` name are left.
  all_goals
    first
    | exact decode_encode_polygon rfl
    | exact decode_encode_line rfl
    | exact decode_encode_polyline rfl hwf
    | exact decode_encode_rect rfl
    | exact decode_encode_unknown rfl hwf rfl
    | exact decode_encode_unrecognized rfl hwf

end Sys2Proof
end

section
/-! SUPPORT. What the decoder answers is well-formed, and every draw-port word is an instruction with the argument words
of its opcode. -/

namespace Sys2Proof

/-! ## Well-formed answers -/

theorem wellFormed_ite {c : Prop} [Decidable c] {i j : Instr} (hi : c → i.wellFormed = true)
    (hj : ¬ c → j.wellFormed = true) : (if c then i else j).wellFormed = true := by
  split
  case isTrue h => exact hi h
  case isFalse h => exact hj h

/-- The rows are tried in order, and a word that is of none of the first 25 is of the last. -/
theorem decodeUnknown_wellFormed {w : Word} (h : IsUnknownOpcode (opOf w)) :
    (decodeUnknown (opOf w) w).wellFormed = true := by
  have hrows := unknown_rows _ h
  unfold decodeUnknown
  iterate 25
    refine wellFormed_ite (fun hrow => (fitsRow_iff_opOf rfl rfl).2 hrow) (fun hother => ?_)
    replace hrows := hrows.resolve_left hother
  exact (fitsRow_iff_opOf rfl rfl).2 hrows

theorem decodeImmediate_wellFormed {w : Word} (hk : kindOf (opOf w) = none) :
    (decodeImmediate w).wellFormed = true := by
  by_cases hu : IsUnknownOpcode (opOf w)
  · rw [decodeImmediate_of_unknown hu]
    exact decodeUnknown_wellFormed hu
  · have := (unknown_or_immediate _ hk).resolve_left hu
    unfold decodeImmediate
    split
    case h_10 => tauto
    all_goals rfl

theorem decodeGp0_wellFormed {w : Word} {args : List Word} {i : Instr} (h : decodeGp0 w args = .ok i) :
    i.wellFormed = true := by
  cases hk : kindOf (opOf w) with
  | none =>
    obtain ⟨-, rfl⟩ := decodeGp0_immediate hk h
    exact decodeImmediate_wellFormed hk
  | some k =>
  cases k with
  | fill =>
    rw [decodeGp0_fill hk] at h
    obtain ⟨_, _, -, rfl⟩ := takePairs2_ok h
    rfl
  | polygon =>
    rw [decodeGp0_polygon hk] at h
    obtain ⟨-, hwf, -⟩ := decodePolygon_ok hk h
    exact hwf
  | line =>
    rw [decodeGp0_line hk] at h
    cases hp : (opOf w).getLsbD 3 with
    | false =>
      obtain ⟨-, hwf, -⟩ := decodeLine_single hk hp h
      exact hwf
    | true =>
      obtain ⟨-, hwf, -⟩ := decodeLine_polyline hk hp h
      exact hwf
  | rect =>
    rw [decodeGp0_rect hk] at h
    obtain ⟨-, hwf, -⟩ := decodeRect_ok hk h
    exact hwf
  | copyVramVram =>
    rw [decodeGp0_copyVramVram hk] at h
    obtain ⟨_, _, _, -, rfl⟩ := takePairs3_ok h
    rfl
  | copyCpuVram =>
    rw [decodeGp0_copyCpuVram hk] at h
    obtain ⟨_, _, -, rfl⟩ := takePairs2_ok h
    rfl
  | copyVramCpu =>
    rw [decodeGp0_copyVramCpu hk] at h
    obtain ⟨_, _, -, rfl⟩ := takePairs2_ok h
    rfl

theorem decodeGetInfo_wellFormed (w : Word) : (decodeGetInfo w).wellFormed = true := by
  unfold decodeGetInfo
  split <;> rfl

theorem decodeGp1_wellFormed (w : Word) : (decodeGp1 w).wellFormed = true := by
  unfold decodeGp1
  split
  case h_2 h => exact fitsRow_of_op1Of rfl h
  case h_11 h | h_12 h | h_13 h | h_14 h | h_15 h | h_16 h => exact fitsRow_of_op1Of rfl h
  case h_17 =>
    split
    case isTrue h => exact fitsRow_high_iff.2 h
    case isFalse => exact decodeGetInfo_wellFormed w
  all_goals rfl

theorem decodeOther_wellFormed {t : Transaction} {i : Instr} (h : decodeOther t = .ok i) : i.wellFormed = true := by
  unfold decodeOther at h
  split at h
  case h_1 =>
    split at h
    case isTrue => cases h; exact decodeGp1_wellFormed _
    case isFalse => cases h
  case h_2 =>
    split at h
    case isTrue => cases h; rfl
    case isFalse =>
      split at h
      case isTrue => cases h; rfl
      case isFalse => cases h
  case h_3 => cases h; rfl
  case h_4 => cases h; rfl

/-- Settles O7: a draw command by its class, a control word by its row; the other transactions carry no condition. -/
theorem decodedInstructionsAreWellFormed : Obligations.DecodedInstructionsAreWellFormed := by
  intro ts i h
  cases ts with
  | nil => cases h
  | cons t rest =>
    simp only [decode] at h
    split at h
    case h_1 =>
      split at h
      case h_1 => exact decodeGp0_wellFormed h
      case h_2 => cases h
    case h_2 =>
      split at h
      case h_1 => exact decodeOther_wellFormed h
      case h_2 => cases h

/-! ## Argument counts -/

set_option maxRecDepth 100000 in
theorem kindOf_line_iff : ∀ op : Opcode, kindOf op = some .line ↔ 0x40 ≤ op.toNat ∧ op.toNat ≤ 0x5F := by
  decide

/-- A command of a single-word class takes no argument word. -/
theorem decodeGp0_answers_iff_of_none {w : Word} (hk : kindOf (opOf w) = none) (args : List Word) :
    (∃ i, decodeGp0 w args = .ok i) ↔ TakesArguments (opOf w) args := by
  have htakes : TakesArguments (opOf w) args ↔ args = [] := by
    simp [TakesArguments, argCount, hk]
  rw [htakes]
  constructor
  · rintro ⟨i, h⟩
    obtain ⟨hargs, -⟩ := decodeGp0_immediate hk h
    exact hargs
  · rintro rfl
    exact ⟨_, decodeGp0_of_none hk⟩

/-- Settles O8: every class answers exactly for the argument lists its opcode takes. -/
theorem drawCommandLengths : Obligations.DrawCommandLengths := by
  intro w args
  have hdecode : decode (Machine.drawWrites (w :: args)) = decodeGp0 w args := decode_drawWrites w args
  have htakes : (∃ i, decodeGp0 w args = .ok i) ↔ TakesArguments (opOf w) args := by
    cases hk : kindOf (opOf w) with
    | none => exact decodeGp0_answers_iff_of_none hk args
    | some k => exact decodeGp0_answers_iff hk args
  rw [hdecode, htakes, TakesArguments]
  simp only [kindOf_line_iff, and_assoc, polylineFits_iff]

/-! ## Words written out -/

/-- Settles O10: twelve closed runs of the decoder. -/
theorem writtenOutWordsDecode : Obligations.WrittenOutWordsDecode := by
  unfold Obligations.WrittenOutWordsDecode
  decide

end Sys2Proof
end

section
/-! SUPPORT. The step that takes a command word at an idle decoder, and the unknown-opcode event
(60_exceptions R363). -/

namespace Sys2Proof.Machine

theorem step_unknown {s : State} {w : Word} {rest : List Transaction} (hp : s.pending = .write 0 .word w :: rest)
    (hf : s.fault = false) (hi : s.dec.state = .idle) (hu : IsUnknownOpcode (opOf w)) :
    step s = .next ((s.setPending rest).diag .unknownGp0Opcode w) := by
  rw [step_immediate hp hf hi (kindOf_of_unknown _ hu), decodeImmediate_of_unknown hu, exec_decodeUnknown]
  exact State.commit_live hf

/-- The nine single-word commands with a meaning complete without a diagnostic. -/
theorem exec_decodeImmediate_diags {w : Word} {s : State} (hf : s.fault = false) (hk : kindOf (opOf w) = none)
    (hu : ¬ IsUnknownOpcode (opOf w)) : ∃ t, exec (decodeImmediate w) s = .next t ∧ t.diags = s.diags := by
  have := (unknown_or_immediate _ hk).resolve_left hu
  unfold decodeImmediate
  split
  case h_10 => tauto
  all_goals exact ⟨_, State.commit_live hf, rfl⟩

/-- Settles O25: an unknown opcode has the one meaning of its class; any other word starts a command or is one of the
nine single-word commands, and none of these adds an event. -/
theorem unknownOpcodesAreTheListedOnes : Obligations.UnknownOpcodesAreTheListedOnes := by
  intro s w rest hf hi hp
  constructor
  · exact step_unknown hp hf hi
  · intro hu
    cases hk : kindOf (opOf w) with
    | none =>
      rw [step_immediate hp hf hi hk]
      exact exec_decodeImmediate_diags hf hk hu
    | some k => exact ⟨_, step_start hp hf hi hk, rfl⟩

end Sys2Proof.Machine
end

section
/-! SUPPORT. The command decoder (40_command_decoder): argument counts, what each word of a command does, and that a
command's whole stream of words runs the command. -/

namespace Sys2Proof

/-! ## The class of an opcode and its argument count -/

set_option maxRecDepth 100000 in
theorem kindOf_fill_iff : ∀ op : Opcode, kindOf op = some .fill ↔ op = 0x02#8 := by decide

set_option maxRecDepth 100000 in
theorem kindOf_polygon_iff : ∀ op : Opcode, kindOf op = some .polygon ↔ 0x20 ≤ op.toNat ∧ op.toNat ≤ 0x3F := by decide

set_option maxRecDepth 100000 in
theorem kindOf_rect_iff : ∀ op : Opcode, kindOf op = some .rect ↔ 0x60 ≤ op.toNat ∧ op.toNat ≤ 0x7F := by decide

set_option maxRecDepth 100000 in
theorem kindOf_copyVramVram_iff : ∀ op : Opcode, kindOf op = some .copyVramVram ↔ op = 0x80#8 := by decide

set_option maxRecDepth 100000 in
theorem kindOf_copyCpuVram_iff : ∀ op : Opcode, kindOf op = some .copyCpuVram ↔ op = 0xA0#8 := by decide

set_option maxRecDepth 100000 in
theorem kindOf_copyVramCpu_iff : ∀ op : Opcode, kindOf op = some .copyVramCpu ↔ op = 0xC0#8 := by decide

theorem ite_eq_toNat (b : Bool) : (if b = true then 1 else 0) = b.toNat := by cases b <;> rfl

/-- `V(1 + T) + G(V - 1)` words for `V` vertices (40_command_decoder R140). -/
theorem argCount_polygon {op : Opcode} (hk : kindOf op = some .polygon) :
    argCount op = (if op.getLsbD 3 then 4 else 3) * (1 + (op.getLsbD 2).toNat)
      + (op.getLsbD 4).toNat * ((if op.getLsbD 3 then 4 else 3) - 1) := by
  simp only [argCount, hk, ite_eq_toNat]

/-- A single line has a second colour word when shaded; a polyline fills the buffer (40_command_decoder R140). -/
theorem argCount_line {op : Opcode} (hk : kindOf op = some .line) :
    argCount op = if op.getLsbD 3 then 16 else 2 + (op.getLsbD 4).toNat := by
  simp only [argCount, hk, ite_eq_toNat, Config.argBufWords]

/-- The size field `op[4:3]` is 0 when both its bits are. -/
theorem size_field_zero_iff (op : Opcode) :
    op.extractLsb' 3 2 = 0#2 ↔ op.getLsbD 4 = false ∧ op.getLsbD 3 = false := by
  constructor
  · intro h
    have h1 := congrArg (BitVec.getLsbD · 1) h
    have h0 := congrArg (BitVec.getLsbD · 0) h
    simpa using And.intro h1 h0
  · rintro ⟨h4, h3⟩
    apply BitVec.eq_of_getLsbD_eq
    intro j hj
    interval_cases j
    · simpa using h3
    · simpa using h4

/-- A rectangle has a texture word when textured and a size word when its size is variable
(40_command_decoder R140). -/
theorem argCount_rect {op : Opcode} (hk : kindOf op = some .rect) :
    argCount op = 1 + (op.getLsbD 2).toNat + (if op.getLsbD 4 = false ∧ op.getLsbD 3 = false then 1 else 0) := by
  simp only [argCount, hk, ite_eq_toNat, size_field_zero_iff]

/-- Settles O9: by the class of the opcode. -/
theorem argumentCounts : Obligations.ArgumentCounts := fun op =>
  ⟨kindOf_fill_iff op, kindOf_polygon_iff op, kindOf_line_iff op, kindOf_rect_iff op, kindOf_copyVramVram_iff op,
    kindOf_copyCpuVram_iff op, kindOf_copyVramCpu_iff op,
    fun hk => by rw [argCount, hk], argCount_polygon, argCount_line, argCount_rect, fun hk => by rw [argCount, hk],
    fun hk => by rw [argCount, hk], fun hk => by rw [argCount, hk], argCount_bounds op⟩

end Sys2Proof

namespace Sys2Proof.Machine

/-! ## One word of a command -/

/-- Settles O13: the step that starts a command. -/
theorem commandWordOnlyArmsDecoder : Obligations.CommandWordOnlyArmsDecoder := by
  intro s w rest k hf hp hi hk
  rw [step_start hp hf hi hk]
  rfl

/-- The decoder with a word stored that does not complete the command (40_command_decoder R134). -/
theorem appendArgument_of_not_completes {cfg : Config.Params} {w : Word} {d : Decoder}
    (h : (appendArgument cfg w d).argLen ≠ (appendArgument cfg w d).argExpected) :
    appendArgument cfg w d =
      { d with argBuf := d.argBuf.setIfInBounds d.argLen w, argLen := d.argLen + 1 } := by
  rw [ne_eq, appendArgument_completes_iff, not_or] at h
  obtain ⟨-, hterm⟩ := h
  have he : (appendArgument cfg w d).argExpected = d.argExpected := by
    rw [appendArgument_argExpected, if_neg hterm]
  calc
    appendArgument cfg w d = { d with
        argBuf := d.argBuf.setIfInBounds d.argLen w, argLen := d.argLen + 1
        argExpected := (appendArgument cfg w d).argExpected } := rfl
    _ = _ := by rw [he]

/-- Settles O14: the step that stores an argument, which does not look at the word's value. -/
theorem argumentWordIsOnlyStored : Obligations.ArgumentWordIsOnlyStored := by
  intro s w rest hf hp hacc _ hlast hterm
  have hn : (appendArgument s.cfg w s.dec).argLen ≠ (appendArgument s.cfg w s.dec).argExpected := by
    rw [ne_eq, appendArgument_completes_iff, isPolyline_iff, and_assoc, not_or]
    exact ⟨hlast, hterm⟩
  rw [step_argument hp hf hacc hn, appendArgument_of_not_completes hn]
  rfl

/-! ## Registers across a command's words -/

/-- What no draw-port word inside a command changes (41_gp0_immediate R171, 42_primitives R221). -/
structure KeepsRegisters (s t : State) : Prop where
  bank : t.bank = s.bank
  readLatch : t.readLatch = s.readLatch
  timing : t.timing = s.timing
  results : t.results = s.results

/-- The read path, which a read-back header alone changes (43_vram_copy R249). -/
structure KeepsReadPath (s t : State) : Prop where
  readMode : t.readMode = s.readMode
  rd : t.rd = s.rd

/-- A dispatched command changes no register; the read path only if it is a read-back. -/
theorem registers_of_dispatch {k : DecKind} {w : Word} {s t : State} (h : DispatchNext k w s t) :
    KeepsRegisters s t ∧ (k ≠ .copyVramCpu → KeepsReadPath s t) := by
  cases h with
  | fill _ c pos size ht =>
    subst ht
    exact ⟨⟨rfl, rfl, rfl, rfl⟩, fun _ => ⟨rfl, rfl⟩⟩
  | emit _ es ht =>
    subst ht
    exact ⟨⟨rfl, rfl, rfl, rfl⟩, fun _ => ⟨rfl, rfl⟩⟩
  | copyVramVram _ src dst size ht =>
    rw [reservedCheck_eq, copyOrAbort] at ht
    split at ht
    all_goals
      subst ht
      exact ⟨⟨rfl, rfl, rfl, rfl⟩, fun _ => ⟨rfl, rfl⟩⟩
  | copyCpuVram _ dst size ht =>
    rw [reservedCheck_eq] at ht
    subst ht
    exact ⟨⟨rfl, rfl, rfl, rfl⟩, fun _ => ⟨rfl, rfl⟩⟩
  | copyVramCpu hk src size ht =>
    rw [reservedCheck_eq] at ht
    subst ht
    exact ⟨⟨rfl, rfl, rfl, rfl⟩, fun hne => absurd hk hne⟩

/-- A draw-port word inside a command: stored, run with its command, or two pixels of a transfer. -/
theorem registers_of_word_inside {s t : State} {w : Word} {rest : List Transaction}
    (hp : s.pending = .write 0 .word w :: rest) (hne : s.dec.state ≠ .idle) (h : step s = .next t) :
    KeepsRegisters s t ∧ (s.dec.kind ≠ .copyVramCpu ∨ s.dec.state = .transfer → KeepsReadPath s t) := by
  cases step_next h with
  | argument _ _ _ _ _ ht =>
    subst ht
    exact ⟨⟨rfl, rfl, rfl, rfl⟩, fun _ => ⟨rfl, rfl⟩⟩
  | dispatch _ _ _ _ hacc _ hk hd ht =>
    obtain ⟨hregs, hread⟩ := registers_of_dispatch (dispatch_next hk hd ht)
    have hnot : s.dec.state ≠ .transfer := by simp [hacc]
    exact ⟨⟨hregs.bank, hregs.readLatch, hregs.timing, hregs.results⟩, fun hor =>
      ⟨(hread (hor.resolve_right hnot)).readMode, (hread (hor.resolve_right hnot)).rd⟩⟩
  | data w' rest' _ _ ht =>
    obtain ⟨_, _, _, he, -⟩ := copyDataWord_frame w' (s.setPending rest')
    rw [he] at ht
    subst ht
    exact ⟨⟨rfl, rfl, rfl, rfl⟩, fun _ => ⟨rfl, rfl⟩⟩
  | immediate _ _ _ hi | start _ _ _ _ hi => exact absurd hi hne
  | idle hp' | control _ _ hp' | readData _ hp' | readStatus _ hp' | elapse _ _ hp' | backend _ _ _ _ _ _ hp' =>
    rw [hp] at hp'
    cases hp'

/-- Settles O59: by the ways the decoder takes a word inside a command. -/
theorem wordsInsideCommandsKeepRegisters : Obligations.WordsInsideCommandsKeepRegisters := by
  intro s t w rest hp hne h
  obtain ⟨hregs, hread⟩ := registers_of_word_inside hp hne h
  exact ⟨hregs.bank, hregs.readLatch, hregs.timing, hregs.results, fun hor => ⟨(hread hor).readMode, (hread hor).rd⟩⟩

/-! ## The words of a command, one after the other -/

theorem runSteps_one (s : State) : runSteps 1 s = step s := by
  simp only [runSteps]
  cases step s <;> rfl

theorem runSteps_of_step {s t : State} (h : step s = .next t) (n : Nat) : runSteps (n + 1) s = runSteps n t := by
  simp only [runSteps, h]

/-- Words that end the accumulation of a decoder holding `d`, with their last word and not before
(40_command_decoder R134, R135). -/
structure EndsAccumulation (cfg : Config.Params) (d : Decoder) (args : List Word) : Prop where
  within : isPolyline d = true → ∀ w ∈ args.dropLast, isTerminator cfg w = false
  room : d.argLen + args.length ≤ d.argExpected
  last : d.argLen + args.length = d.argExpected
    ∨ isPolyline d = true ∧ ∃ w, args.getLast? = some w ∧ isTerminator cfg w = true

/-- A last word completes the command. -/
theorem EndsAccumulation.completes {cfg : Config.Params} {d : Decoder} {w : Word} (h : EndsAccumulation cfg d [w]) :
    (appendArgument cfg w d).argLen = (appendArgument cfg w d).argExpected := by
  rw [appendArgument_completes_iff]
  refine h.last.imp_right ?_
  rintro ⟨hpoly, _, hw, hterm⟩
  cases hw
  exact ⟨hpoly, hterm⟩

/-- A word before the last does not complete the command. -/
theorem EndsAccumulation.not_completes {cfg : Config.Params} {d : Decoder} {w v : Word} {args : List Word}
    (h : EndsAccumulation cfg d (w :: v :: args)) :
    (appendArgument cfg w d).argLen ≠ (appendArgument cfg w d).argExpected := by
  have hroom := h.room
  rw [ne_eq, appendArgument_completes_iff, not_or]
  refine ⟨by simp only [List.length_cons] at hroom; omega, ?_⟩
  rintro ⟨hpoly, hterm⟩
  simp [h.within hpoly w (by simp)] at hterm

/-- Once a word before the last is stored, the rest of the words end the accumulation. -/
theorem EndsAccumulation.tail {cfg : Config.Params} {d : Decoder} {w v : Word} {args : List Word}
    (h : EndsAccumulation cfg d (w :: v :: args)) : EndsAccumulation cfg (appendArgument cfg w d) (v :: args) := by
  rw [appendArgument_of_not_completes h.not_completes]
  obtain ⟨hwithin, hroom, hlast⟩ := h
  simp only [List.length_cons] at hroom hlast
  refine ⟨fun hpoly u hu => hwithin hpoly u (List.mem_cons_of_mem w hu), ?_, ?_⟩
  · simp only [List.length_cons]
    omega
  · simp only [List.length_cons]
    refine hlast.imp (fun he => by omega) ?_
    rintro ⟨hpoly, u, hu, hterm⟩
    exact ⟨hpoly, u, by rwa [List.getLast?_cons_cons] at hu, hterm⟩

/-- The argument words that end an accumulation run the command, on a state that differs in the decoder only. -/
theorem runSteps_arguments {i : Instr} {rest : List Transaction} {args : List Word} :
    ∀ {s : State}, args ≠ [] → s.fault = false → s.dec.state = .accum →
      kindOf (opOf s.dec.cmdWord) = some s.dec.kind → s.dec.argExpected ≤ 16 →
      s.pending = drawWrites args ++ rest → EndsAccumulation s.cfg s.dec args →
      decodeGp0 s.dec.cmdWord (s.dec.arguments ++ args) = .ok i →
      ∃ d : Decoder, runSteps args.length s = exec i { s with pending := rest, dec := d } := by
  induction args with
  | nil => exact fun hne => absurd rfl hne
  | cons w args ih =>
    intro s _ hf hacc hk hmax hp hends hd
    have hlen : s.dec.argLen < 16 := by
      have hroom := hends.room
      simp only [List.length_cons] at hroom
      omega
    have hargs := Decoder.arguments_append s.cfg w hlen
    cases args with
    | nil =>
      rw [← hargs] at hd
      exact ⟨_, (runSteps_one s).trans (step_dispatch hp hf hacc hends.completes hk hd)⟩
    | cons v args =>
      have hnext := step_argument hp hf hacc hends.not_completes
      have hexp : (appendArgument s.cfg w s.dec).argExpected ≤ 16 := by
        rw [appendArgument_of_not_completes hends.not_completes]
        exact hmax
      have hd' : decodeGp0 s.dec.cmdWord ((appendArgument s.cfg w s.dec).arguments ++ v :: args) = .ok i := by
        rw [hargs, List.append_assoc]
        exact hd
      obtain ⟨d, hrun⟩ := ih (s := (s.setPending (drawWrites (v :: args) ++ rest)).setDec (appendArgument s.cfg w s.dec))
        (List.cons_ne_nil v args) hf hacc hk hexp rfl hends.tail hd'
      exact ⟨d, (runSteps_of_step hnext _).trans hrun⟩

/-- The words of a command that decodes end its accumulation, from the command word on; of a polyline's, those that
`endsPolyline` admits (40_command_decoder R135, R141). -/
theorem endsAccumulation_of_decode {w : Word} {k : DecKind} {args : List Word} {i : Instr} {s : State}
    (hk : kindOf (opOf w) = some k) (hd : decodeGp0 w args = .ok i)
    (hpoly : i.isPolyline = true → endsPolyline s.cfg args) :
    EndsAccumulation s.cfg (startCommand k w s).dec args := by
  have htakes := (decodeGp0_answers_iff hk args).1 ⟨i, hd⟩
  have hpolyline : isPolyline (startCommand k w s).dec = true ↔ k = .line ∧ (opOf w).getLsbD 3 = true := by
    rw [isPolyline_iff, getLsbD_opOf]
    rfl
  by_cases hp : k = .line ∧ (opOf w).getLsbD 3 = true
  · obtain ⟨rfl, hbit⟩ := hp
    rw [decodeGp0_line hk] at hd
    obtain ⟨hfits, -, hisPoly⟩ := decodeLine_polyline hk hbit hd
    obtain ⟨hwithin, hlast⟩ := hpoly hisPoly
    have hcount : (startCommand .line w s).dec.argExpected = 16 := argCount_polyline hk hbit
    refine ⟨fun _ => hwithin, ?_, ?_⟩
    · rw [hcount]
      exact (Nat.zero_add _).trans_le (polylineFits_iff.1 hfits).2
    · rw [hcount]
      exact hlast.imp (fun h16 => (Nat.zero_add _).trans h16) fun h => ⟨hpolyline.2 ⟨rfl, hbit⟩, h⟩
  · have hcount : 0 + args.length = argCount (opOf w) := by
      have hnot : ¬ (kindOf (opOf w) = some .line ∧ (opOf w).getLsbD 3 = true) := by simpa [hk] using hp
      rw [TakesArguments, if_neg hnot] at htakes
      rw [Nat.zero_add, htakes]
    exact ⟨fun h => absurd (hpolyline.1 h) hp, hcount.le, .inl hcount⟩

/-- A run of transactions that decodes is one transaction, or the words of a multi-argument command. -/
theorem decode_ok_cases {ts : List Transaction} {i : Instr} (h : decode ts = .ok i) :
    (∃ t, ts = [t])
    ∨ ∃ w args k, args ≠ [] ∧ ts = drawWrites (w :: args) ∧ kindOf (opOf w) = some k ∧ decodeGp0 w args = .ok i := by
  match ts with
  | [] => cases h
  | [t] => exact .inl ⟨t, rfl⟩
  | t :: t' :: ts =>
    right
    simp only [decode] at h
    split at h
    case h_2 => cases h
    case h_1 w hw =>
      split at h
      case h_2 => cases h
      case h_1 args hargs =>
        have hmap := eq_map_of_drawArguments hargs
        have hne : args ≠ [] := by
          rintro rfl
          cases hmap
        cases hk : kindOf (opOf w) with
        | none => exact absurd (decodeGp0_immediate hk h).1 hne
        | some k =>
          refine ⟨w, args, k, hne, ?_, hk, h⟩
          rw [eq_write_of_drawWord hw, hmap]
          rfl

/-- A command's words, pending at an idle decoder, run the command. -/
theorem runSteps_drawWrites {i : Instr} {s : State} {rest : List Transaction} {w : Word} {args : List Word} {k : DecKind}
    (hf : s.fault = false) (hi : s.dec.state = .idle) (hp : s.pending = drawWrites (w :: args) ++ rest)
    (hne : args ≠ []) (hk : kindOf (opOf w) = some k) (hd : decodeGp0 w args = .ok i)
    (hpoly : i.isPolyline = true → endsPolyline s.cfg args) :
    ∃ d : Decoder, runSteps (args.length + 1) s = exec i { s with pending := rest, dec := d } := by
  have hmax := (argCount_bounds (opOf w) (by simp [hk])).2
  obtain ⟨d, hrun⟩ := runSteps_arguments (s := startCommand k w (s.setPending (drawWrites args ++ rest)))
    hne hf rfl hk hmax rfl (endsAccumulation_of_decode hk hd hpoly) hd
  exact ⟨d, (runSteps_of_step (step_start hp hf hi hk) _).trans hrun⟩

/-- Settles O12: what the encoder writes decodes to the instruction, so it is one transaction that a step runs or a
command word with arguments that end the accumulation. -/
theorem instructionStreamRuns : Obligations.InstructionStreamRuns := by
  intro i s rest hwf hf hi hp hpoly
  have hd : decode (encode i) = .ok i := decodeOfEncode i hwf
  rcases decode_ok_cases hd with ⟨t, he⟩ | ⟨w, args, k, hne, he, hk, hd'⟩
  · rw [he] at hd hp ⊢
    exact ⟨s.dec, fun _ => rfl, (runSteps_one s).trans (step_of_decode hf hp hd fun _ => hi)⟩
  · have hlen : (encode i).length = args.length + 1 := by rw [he]; simp [drawWrites]
    rw [he] at hp
    obtain ⟨d, hrun⟩ := runSteps_drawWrites hf hi hp hne hk hd' fun h => hpoly h w args he
    refine ⟨d, fun hone => ?_, hlen ▸ hrun⟩
    have := List.length_pos_iff.2 hne
    omega

end Sys2Proof.Machine
end

section
/-! SUPPORT. The polyline's meaning over its argument words (42_primitives R206), and the step that ends one. -/

namespace Sys2Proof.Machine

/-! ## The data words of a polyline -/

/-- The data words are the first of the argument words, as many as R206 counts. -/
theorem polylineData_eq_take (cfg : Config.Params) (args : List Word) :
    polylineData cfg args = args.take (polylineDataCount cfg args) := by
  cases args using List.reverseRecOn with
  | nil => simp [polylineData]
  | append_singleton init w =>
    by_cases h : isTerminator cfg w = true <;> simp [polylineData, polylineDataCount, h]

theorem polylineDataCount_le (cfg : Config.Params) (args : List Word) : polylineDataCount cfg args ≤ args.length := by
  unfold polylineDataCount
  split <;> omega

/-- No data word is left when the pointer has passed them all. -/
theorem le_of_drop_take_eq_nil {args : List Word} {n p : Nat} (hn : n ≤ args.length) (h : (args.take n).drop p = []) :
    n ≤ p := by
  simpa [hn] using List.drop_eq_nil_iff.1 h

/-- The word at the pointer is the first of the data words left. -/
theorem getD_of_drop_take {args rest : List Word} {n p : Nat} {w : Word} (h : (args.take n).drop p = w :: rest) :
    p < n ∧ args.getD p 0#32 = w ∧ (args.take n).drop (p + 1) = rest := by
  have hp : (args.take n)[p]? = some w := by rw [← List.head?_drop, h]; rfl
  rw [List.getElem?_take] at hp
  split at hp
  case isTrue hlt => exact ⟨hlt, by simp [hp], by rw [← List.tail_drop, h]; rfl⟩
  case isFalse => cases hp

/-! ## The loop of R206 and the chains of segments -/

/-- After the first segment the loop does not look at its index. -/
theorem polylineLoop_index (seg : Word → Word → Word → Word → Emission) (g : Bool) (lead : Word) (a : Nat → Word)
    (n fuel i p : Nat) (p1 c1 : Word) :
    polylineLoop seg g lead a n fuel (i + 1) p p1 c1 = polylineLoop seg g lead a n fuel 1 p p1 c1 := by
  induction fuel generalizing i p p1 c1 with
  | zero => rfl
  | succ fuel ih =>
    simp only [polylineLoop, Nat.succ_ne_zero, if_false, ih (i + 1), ih 1]

/-- The first segment starts at the first data word, in the command's colour. -/
theorem polylineLoop_first (seg : Word → Word → Word → Word → Emission) (g : Bool) (lead : Word) (a : Nat → Word)
    (n fuel : Nat) (p1 c1 : Word) :
    polylineLoop seg g lead a n fuel 0 0 p1 c1 = polylineLoop seg g lead a n fuel 1 1 (a 0) lead := by
  cases fuel with
  | zero => rfl
  | succ fuel =>
    have hneed : ∀ m, 0 + (2 + m) = 1 + (1 + m) := by omega
    simp only [polylineLoop, Nat.succ_ne_zero, if_false, if_true, hneed, polylineLoop_index (i := 1)]

/-- A flat loop at pointer `p` draws the chain of the data words left. -/
theorem polylineLoop_flat {seg : Word → Word → Word → Word → Emission} {chain : VertexWord → VertexWord → Emission}
    {lead : Word} {args : List Word} {n : Nat} (hn : n ≤ args.length)
    (hseg : ∀ p0 p1, seg p0 lead p1 lead = chain (vertexOf p0) (vertexOf p1)) (fuel p : Nat) (p1 : Word) :
    polylineLoop seg false lead (args.getD · 0#32) n fuel 1 p p1 lead
      = flatChain chain fuel (vertexOf p1) ((args.take n).drop p) := by
  induction fuel generalizing p p1 with
  | zero => rfl
  | succ fuel ih =>
    cases hrest : (args.take n).drop p with
    | nil =>
      have := le_of_drop_take_eq_nil hn hrest
      simp [polylineLoop, flatChain, show n < p + 1 by omega]
    | cons w rest =>
      obtain ⟨hlt, hw, hnext⟩ := getD_of_drop_take hrest
      simp [-List.getD_eq_getElem?_getD, polylineLoop, flatChain, show ¬ n < p + 1 by omega, hw, hseg,
        polylineLoop_index, ih, hnext]

/-- A gouraud loop at pointer `p` draws the chain of the data words left, two words a segment. -/
theorem polylineLoop_gouraud {seg : Word → Word → Word → Word → Emission}
    {chain : VertexWord → Color → VertexWord → Color → Emission} {lead : Word} {args : List Word} {n : Nat}
    (hn : n ≤ args.length)
    (hseg : ∀ p0 c0 p1 c1, seg p0 c0 p1 c1 = chain (vertexOf p0) (colorOf c0) (vertexOf p1) (colorOf c1))
    (fuel p : Nat) (p1 c1 : Word) :
    polylineLoop seg true lead (args.getD · 0#32) n fuel 1 p p1 c1
      = gouraudChain chain fuel (vertexOf p1) (colorOf c1) ((args.take n).drop p) := by
  induction fuel generalizing p p1 c1 with
  | zero => rfl
  | succ fuel ih =>
    match hrest : (args.take n).drop p with
    | [] =>
      have := le_of_drop_take_eq_nil hn hrest
      simp [polylineLoop, gouraudChain, show n < p + 2 by omega]
    | [cw] =>
      obtain ⟨-, -, hnext⟩ := getD_of_drop_take hrest
      have := le_of_drop_take_eq_nil hn hnext
      simp [polylineLoop, gouraudChain, show n < p + 2 by omega]
    | cw :: vw :: rest =>
      obtain ⟨-, hcw, hafter⟩ := getD_of_drop_take hrest
      obtain ⟨hlt, hvw, hnext⟩ := getD_of_drop_take hafter
      simp [-List.getD_eq_getElem?_getD, polylineLoop, gouraudChain, show ¬ n < p + 2 by omega, hcw, hvw, hseg,
        polylineLoop_index, ih, hnext]

/-! ## The records -/

theorem rgbOf_colorOf (w : Word) : rgbOf (colorOf w) = ⟨w.extractLsb' 0 8, w.extractLsb' 8 8, w.extractLsb' 16 8⟩ := by
  simp [rgbOf, colorOf, BitVec.extractLsb'_extractLsb'_of_le]

/-- The record of a segment from its words (42_primitives R207, R209). -/
theorem segmentRecord_eq (s : State) (op : Opcode) (p0 c0 p1 c1 : Word) :
    segmentRecord s op p0 c0 p1 c1 =
      lineRecord s (lineFlags s (op.getLsbD 1) (op.getLsbD 4)) (vertexOf p0) (colorOf c0) (vertexOf p1) (colorOf c1) := by
  have hvertex : ∀ f t c p, wordVertex s f t c p 0#32 = vertexRecord s f t (plainCorner (colorOf c) (vertexOf p)) := by
    intro f t c p
    unfold vertexRecord plainCorner
    rw [rgbOf_colorOf]
    rfl
  simp only [segmentRecord, hvertex]
  rfl

/-- The records of a polyline from its words (42_primitives R206). -/
theorem polylineRecords_eq (s : State) (cmd : Word) (args : List Word) :
    polylineRecords s ((opOf cmd).getLsbD 1) ((opOf cmd).getLsbD 4) (colorOf cmd) args
      = polylineWordRecords s cmd args := by
  have hn := polylineDataCount_le s.cfg args
  have hseg := segmentRecord_eq s (opOf cmd)
  simp only [polylineRecords, polylineWordRecords, polylineData_eq_take]
  cases hdata : args.take (polylineDataCount s.cfg args) with
  | nil =>
    have hnone := le_of_drop_take_eq_nil (p := 0) hn hdata
    simp [polylineLoop, Nat.le_zero.1 hnone]
  | cons v0 rest =>
    obtain ⟨-, hfirst, hrest⟩ := getD_of_drop_take (p := 0) hdata
    rw [polylineLoop_first, hfirst]
    cases hg : (opOf cmd).getLsbD 4 with
    | false =>
      rw [hg] at hseg
      rw [polylineLoop_flat (chain := fun p0 p1 => lineRecord s _ p0 (colorOf cmd) p1 (colorOf cmd)) hn
        fun p0 p1 => hseg p0 cmd p1 cmd, hrest]
      rfl
    | true =>
      rw [hg] at hseg
      rw [polylineLoop_gouraud hn hseg, hrest]
      rfl

/-- What a decoded polyline command does, by its opcode's bits (42_primitives R206, R210). -/
theorem exec_of_decodeLine_polyline {op : Opcode} {c : Color} {args : List Word} {i : Instr}
    (hk : kindOf op = some .line) (hp : op.getLsbD 3 = true) (h : decodeLine op c args = .ok i) (s : State) :
    exec i s = polyline (op.getLsbD 1) (op.getLsbD 4) c args s := by
  obtain ⟨n, rfl⟩ := line_opcode op hk
  fin_cases n
  iterate 8 exact absurd hp (by decide)
  iterate 8 (obtain ⟨-, rfl⟩ := takePolyline_ok h; rfl)
  iterate 8 exact absurd hp (by decide)
  iterate 8 (obtain ⟨-, rfl⟩ := takePolyline_ok h; rfl)

/-- A polyline's words, run, emit the segments of R206 and leave the decoder idle. -/
theorem exec_polyline_words {cmd : Word} {args : List Word} {i : Instr} {s : State} (hf : s.fault = false)
    (hk : kindOf (opOf cmd) = some .line) (hp : (opOf cmd).getLsbD 3 = true) (h : decodeGp0 cmd args = .ok i) :
    exec i s = .next ((s.emit (polylineWordRecords s cmd args)).dispatched .idle) := by
  rw [decodeGp0_line hk] at h
  rw [exec_of_decodeLine_polyline hk hp h, polyline, polylineRecords_eq]
  exact State.commit_live hf

theorem Decoder.isCleared_cleared (d : Decoder) (st : DecState) : (d.cleared st).IsCleared st :=
  ⟨rfl, rfl, rfl, rfl, rfl⟩

/-- Settles O15: a terminator completes a polyline wherever it arrives, and the step that stores it runs the command. -/
theorem terminatorEndsPolyline : Obligations.TerminatorEndsPolyline := by
  intro s w rest hf hp hwf hacc hline hbit hw
  have hterm : isTerminator s.cfg w = true := by
    simpa only [isTerminator, Bool.or_eq_true, beq_iff_eq] using hw
  have hdone : (appendArgument s.cfg w s.dec).argLen = (appendArgument s.cfg w s.dec).argExpected :=
    (appendArgument_completes_iff s.cfg w s.dec).2 (.inr ⟨(isPolyline_iff s.dec).2 ⟨hline, hbit⟩, hterm⟩)
  obtain ⟨hk, hcount, hlt⟩ := (Decoder.wf_iff_of_accum hacc).1 hwf
  have hmax := (argCount_bounds (opOf s.dec.cmdWord) (by simp [hk])).2
  obtain ⟨i, hd⟩ := (decodeGp0_answers_iff hk _).2 (takesArguments_of_completes hwf hacc hdone)
  have hexec := exec_polyline_words (s := (s.setPending rest).setDec (appendArgument s.cfg w s.dec)) hf (hline ▸ hk)
    ((getLsbD_opOf _).trans hbit) hd
  rw [Decoder.arguments_append s.cfg w (by omega)] at hexec
  exact ⟨_, Decoder.isCleared_cleared _ .idle, (step_dispatch hp hf hacc hdone hk hd).trans hexec⟩

end Sys2Proof.Machine
end

section
/-! SUPPORT. The single-word draw commands (41_gp0_immediate R160 to R169): what each does as an instruction, and what
its word does at an idle decoder. -/

namespace Sys2Proof

/-! ## Bits of packed fields -/

/-- A bit of the lower of two fields. -/
theorem getLsbD_append_of_lt {m n k : Nat} (a : BitVec m) (b : BitVec n) (h : k < n) :
    (a ++ b).getLsbD k = b.getLsbD k := by rw [BitVec.getLsbD_append, if_pos h]

/-- A one-bit field is the bit just above what stands below it. -/
theorem getLsbD_append_ofBool {n : Nat} (a : Bool) (b : BitVec n) : (BitVec.ofBool a ++ b).getLsbD n = a := by
  rw [BitVec.getLsbD_append, if_neg (lt_irrefl n), Nat.sub_self, BitVec.getLsbD_ofBool]
  rfl

/-! ## The word of a single-word command, its parameter free -/

theorem decodeImmediate_nop (p : Color) : decodeImmediate (0x00#8 ++ p) = .nop := by simp [decodeImmediate]

theorem decodeImmediate_clearCache (p : Color) : decodeImmediate (0x01#8 ++ p) = .clearCache := by
  simp [decodeImmediate]

theorem decodeImmediate_setDrawMode (p : Color) : decodeImmediate (0xE1#8 ++ p) = .setDrawMode p := by
  simp [decodeImmediate, extract_commandWord]

theorem decodeImmediate_setTexWindow (p : Color) : decodeImmediate (0xE2#8 ++ p) = .setTexWindow p := by
  simp [decodeImmediate, extract_commandWord]

theorem decodeImmediate_setClipTl (p : Color) :
    decodeImmediate (0xE3#8 ++ p) = .setClipTl (p.extractLsb' 0 10) (p.extractLsb' 10 10) := by
  simp [decodeImmediate, extract_commandWord]

theorem decodeImmediate_setClipBr (p : Color) :
    decodeImmediate (0xE4#8 ++ p) = .setClipBr (p.extractLsb' 0 10) (p.extractLsb' 10 10) := by
  simp [decodeImmediate, extract_commandWord]

theorem decodeImmediate_setOffset (p : Color) :
    decodeImmediate (0xE5#8 ++ p) = .setOffset (p.extractLsb' 0 11) (p.extractLsb' 11 11) := by
  simp [decodeImmediate, extract_commandWord]

theorem decodeImmediate_setMask (p : Color) :
    decodeImmediate (0xE6#8 ++ p) = .setMask (p.getLsbD 0) (p.getLsbD 1) := by
  simp [decodeImmediate, getLsbD_commandWord, -BitVec.getLsbD_eq_getElem]

end Sys2Proof

namespace Sys2Proof.Machine

/-- An opcode of the single-word classes runs at once, whatever its parameter (40_command_decoder R131). -/
theorem step_commandWord {s : State} {op : Opcode} {p : Color} {rest : List Transaction}
    (hp : s.pending = .write 0 .word (op ++ p) :: rest) (hf : s.fault = false) (hi : s.dec.state = .idle)
    (hk : kindOf op = none) : step s = exec (decodeImmediate (op ++ p)) (s.setPending rest) :=
  step_immediate hp hf hi (by rw [opOf_append, hk])

/-! ## Commands without an effect -/

theorem exec_nop {s : State} (hf : s.fault = false) : exec .nop s = .next s := State.commit_live hf

theorem exec_clearCache {s : State} (hf : s.fault = false) : exec .clearCache s = .next s := State.commit_live hf

/-- Settles O20: both commands commit the state they run in, and their words run them. -/
theorem nopAndClearCacheDoNothing : Obligations.NopAndClearCacheDoNothing := by
  intro s hf
  refine ⟨exec_nop hf, exec_clearCache hf, fun p rest hi => ⟨fun hp => ?_, fun hp => ?_⟩⟩
  · rw [step_commandWord hp hf hi rfl, decodeImmediate_nop]
    exact exec_nop hf
  · rw [step_commandWord hp hf hi rfl, decodeImmediate_clearCache]
    exact exec_clearCache hf

/-! ## The interrupt latch -/

/-- Bit 24 of the status word is the latch: six fields stand above it and 24 bits below (45_bus_reads R326). -/
theorem getLsbD_statusWord_irq (s : State) : (statusWord s).getLsbD 24 = s.bank.irqLatch := by
  unfold statusWord
  iterate 6 refine (getLsbD_append_of_lt _ _ (by decide)).trans ?_
  exact getLsbD_append_ofBool _ _

/-- Settles O21: each command commits the bank with its value of the latch, which the output and bit 24 show. -/
theorem irqLatchSetAndAcknowledged : Obligations.IrqLatchSetAndAcknowledged := fun _ hf =>
  ⟨⟨_, rfl, State.commit_live hf, rfl, getLsbD_statusWord_irq _⟩,
    ⟨_, rfl, State.commit_live hf, rfl, getLsbD_statusWord_irq _⟩⟩

/-! ## Commands that write registers -/

/-- A command that commits another bank writes that bank and nothing else. -/
theorem commit_setBank {s : State} (hf : s.fault = false) (b : RegisterBank) :
    s.commit (s.setBank b) = .next { s with bank := b } := State.commit_live hf

/-- Settles O22: each of the commands commits the bank with its operands stored. -/
theorem registerCommandsWriteRegisters : Obligations.RegisterCommandsWriteRegisters := by
  intro s hf
  and_intros
  all_goals
    intros
    exact commit_setBank hf _

/-- Settles O23: each word decodes to its command with the fields of the parameter, which then writes the registers. -/
theorem settingWordsWriteRegisters : Obligations.SettingWordsWriteRegisters := by
  intro s p rest hf hi
  obtain ⟨hmode, hwindow, htl, hbr, hoffset, hmask, -⟩ := registerCommandsWriteRegisters (s.setPending rest) hf
  refine ⟨fun hp => ?_, fun hp => ?_, fun hp => ?_, fun hp => ?_, fun hp => ?_, fun hp => ?_⟩
  all_goals rw [step_commandWord hp hf hi rfl]
  · rw [decodeImmediate_setDrawMode]
    exact hmode _
  · rw [decodeImmediate_setTexWindow]
    exact hwindow _
  · rw [decodeImmediate_setClipTl]
    exact htl _ _
  · rw [decodeImmediate_setClipBr]
    exact hbr _ _
  · rw [decodeImmediate_setOffset]
    exact hoffset _ _
  · rw [decodeImmediate_setMask]
    exact hmask _ _

/-! ## The unknown class -/

/-- The 26 rows of the unknown class have one meaning, given the word that encodes them (41_gp0_immediate R169). -/
theorem exec_of_isUnknown {i : Instr} {w : Word} (hu : i.isUnknown = true) (he : encode i = [.write 0 .word w])
    (s : State) : exec i s = unknownCommand w s := by
  cases i
  all_goals
    first
    | (cases hu; done)
    | (cases he; rfl)

/-- Settles O24: the one meaning of the class, while `fault` is 0. -/
theorem unknownCommandsLogOneEvent : Obligations.UnknownCommandsLogOneEvent := fun _ _ s hu he hf =>
  (exec_of_isUnknown hu he s).trans (State.commit_live hf)

end Sys2Proof.Machine
end

section
/-! SUPPORT. Colours and coordinates of the primitives, and the words of a primitive command (42_primitives R190 to
R195). -/

namespace Sys2Proof.Machine

/-! ## Colours and coordinates -/

/-- An append as a number. -/
theorem toNat_append_eq_add {m n : Nat} (a : BitVec m) (b : BitVec n) :
    (a ++ b).toNat = a.toNat * 2 ^ n + b.toNat := by
  rw [BitVec.toNat_append, ← Nat.shiftLeft_add_eq_or_of_lt b.isLt, Nat.shiftLeft_eq]

/-- Settles O26: the three top fields of the colour, each the quotient of its channel by 8. -/
theorem colourConversionTruncates : Obligations.ColourConversionTruncates := by
  intro r g b
  have hr : (b ++ (g ++ r)).extractLsb' 3 5 = r.extractLsb' 3 5 := by
    rw [extract_append_low _ _ (by omega), extract_append_low _ _ (by omega)]
  have hg : (b ++ (g ++ r)).extractLsb' 11 5 = g.extractLsb' 3 5 :=
    (extract_append_low _ _ (by omega)).trans (extract_append_high (k := 3) g r (by omega))
  have hb : (b ++ (g ++ r)).extractLsb' 19 5 = b.extractLsb' 3 5 := extract_append_high (k := 3) b (g ++ r) (by omega)
  simp only [to15, hr, hg, hb, toNat_append_eq_add, BitVec.extractLsb'_toNat, BitVec.toNat_ofNat,
    Nat.shiftRight_eq_div_pow]
  omega

/-- The range of a two's-complement integer. -/
theorem toInt_bounds {n : Nat} (v : BitVec (n + 1)) : -2 ^ n ≤ v.toInt ∧ v.toInt < 2 ^ n :=
  ⟨v.le_toInt, v.toInt_lt⟩

/-- The low ten bits of a half-word, sign-extended. -/
theorem sext_ten (v : Half) : sext 10 v = (v.extractLsb' 0 10).toInt := by
  rw [sext, BitVec.setWidth_eq_extractLsb' (by omega)]

/-- Settles O33: the field lies in -512 to 511 and the offset in -1024 to 1023. -/
theorem coordinatesStayInRange : Obligations.CoordinatesStayInRange := by
  intro s p h
  have hx : coordX s p = (p.x.extractLsb' 0 10).toInt + s.bank.offX.toInt := by rw [coordX, h, sext_ten]
  have hy : coordY s p = (p.y.extractLsb' 0 10).toInt + s.bank.offY.toInt := by rw [coordY, h, sext_ten]
  have hfx := toInt_bounds (n := 9) (p.x.extractLsb' 0 10)
  have hfy := toInt_bounds (n := 9) (p.y.extractLsb' 0 10)
  have hox := toInt_bounds (n := 10) s.bank.offX
  have hoy := toInt_bounds (n := 10) s.bank.offY
  omega

/-! ## A command's words and what they decode to -/

/-- A command's writes give back its opcode, its parameter and its argument words. -/
theorem words_of_drawCommand {i : Instr} {op : Opcode} {c : Color} {as args : List Word} {cmd : Word}
    (hcmd : encode i = drawCommand op c as) (he : encode i = drawWrites (cmd :: args)) :
    opOf cmd = op ∧ colorOf cmd = c ∧ args = as := by
  have hinj : Function.Injective (Transaction.write 0 .word) := fun _ _ h => by injection h
  have hwords : cmd :: args = commandWord op c :: as := List.map_injective_iff.2 hinj (he.symm.trans hcmd)
  obtain ⟨rfl, rfl⟩ := List.cons.inj hwords
  exact ⟨opOf_commandWord op c, colorOf_commandWord op c, rfl⟩

theorem encode_of_isPolygon {i : Instr} (h : i.isPolygon = true) :
    ∃ op c args, kindOf op = some .polygon ∧ encode i = drawCommand op c args := by
  cases i <;> first | (cases h; done) | exact ⟨_, _, _, rfl, rfl⟩

theorem encode_of_isLine {i : Instr} (h : i.isLine = true) :
    ∃ op c args, kindOf op = some .line ∧ op.getLsbD 3 = false ∧ encode i = drawCommand op c args := by
  cases i <;> first | (cases h; done) | exact ⟨_, _, _, rfl, rfl, rfl⟩

/-- A polyline command's meaning by its opcode's bits, whatever list of words it holds (42_primitives R206, R210). -/
theorem encode_of_isPolyline {i : Instr} (h : i.isPolyline = true) :
    ∃ op c args, kindOf op = some .line ∧ op.getLsbD 3 = true ∧ encode i = drawCommand op c args
      ∧ ∀ s, exec i s = polyline (op.getLsbD 1) (op.getLsbD 4) c args s := by
  cases i <;> first | (cases h; done) | exact ⟨_, _, _, rfl, rfl, rfl, fun _ => rfl⟩

theorem encode_of_isRect {i : Instr} (h : i.isRect = true) :
    ∃ op c args, kindOf op = some .rect ∧ encode i = drawCommand op c args := by
  cases i <;> first | (cases h; done) | exact ⟨_, _, _, rfl, rfl⟩

/-- A polygon command's words give a polygon opcode and decode back to it. -/
theorem decodePolygon_of_words {i : Instr} {cmd : Word} {args : List Word} (h : i.isPolygon = true)
    (he : encode i = drawWrites (cmd :: args)) :
    kindOf (opOf cmd) = some .polygon ∧ decodePolygon (opOf cmd) (colorOf cmd) args = .ok i := by
  obtain ⟨op, c, as, hk, hcmd⟩ := encode_of_isPolygon h
  obtain ⟨rfl, rfl, rfl⟩ := words_of_drawCommand hcmd he
  exact ⟨hk, by rw [← decode_polygonCommand hk, ← hcmd, decode_encode_polygon h]⟩

theorem decodeLine_of_words {i : Instr} {cmd : Word} {args : List Word} (h : i.isLine = true)
    (he : encode i = drawWrites (cmd :: args)) :
    kindOf (opOf cmd) = some .line ∧ (opOf cmd).getLsbD 3 = false
      ∧ decodeLine (opOf cmd) (colorOf cmd) args = .ok i := by
  obtain ⟨op, c, as, hk, hbit, hcmd⟩ := encode_of_isLine h
  obtain ⟨rfl, rfl, rfl⟩ := words_of_drawCommand hcmd he
  exact ⟨hk, hbit, by rw [← decode_lineCommand hk, ← hcmd, decode_encode_line h]⟩

theorem decodeRect_of_words {i : Instr} {cmd : Word} {args : List Word} (h : i.isRect = true)
    (he : encode i = drawWrites (cmd :: args)) :
    kindOf (opOf cmd) = some .rect ∧ decodeRect (opOf cmd) (colorOf cmd) args = .ok i := by
  obtain ⟨op, c, as, hk, hcmd⟩ := encode_of_isRect h
  obtain ⟨rfl, rfl, rfl⟩ := words_of_drawCommand hcmd he
  exact ⟨hk, by rw [← decode_rectCommand hk, ← hcmd, decode_encode_rect h]⟩

/-- The corner that a colour word, a VERTEX word and, when textured, a TEXCOORD word hold (42_primitives R200). -/
def wordCorner (textured : Bool) (color pos tex : Word) : Corner :=
  if textured then texCorner (colorOf color) (vertexOf pos) (texOf tex) else plainCorner (colorOf color) (vertexOf pos)

/-- A vertex record from its words is the record of the corner they hold; a missing TEXCOORD word is read as 0
(42_primitives R194, R200). -/
theorem wordVertex_eq (s : State) (f : PrimFlags) (t : Texture) (textured : Bool) (color pos tex : Word) :
    wordVertex s f t color pos (if textured then tex else 0#32)
      = vertexRecord s f t (wordCorner textured color pos tex) := by
  cases textured
  all_goals
    simp only [wordCorner, vertexRecord, texCorner, plainCorner, Bool.false_eq_true, if_true, if_false, rgbOf_colorOf]
    rfl

/-- A live command that only emits, and what its dispatch leaves of the state. -/
theorem commit_emit {s : State} (hf : s.fault = false) (es : List Emission) :
    ∃ d : Decoder, d.IsCleared .idle
      ∧ s.commit ((s.emit es).dispatched .idle) = .next { s with emissions := s.emissions ++ es, dec := d } :=
  ⟨_, Decoder.isCleared_cleared _ .idle, State.commit_live hf⟩

end Sys2Proof.Machine
end

section
/-! SUPPORT. The primitives that emit: polygons, lines, polylines and rectangles, each from its words (42_primitives
R199 to R219). -/

namespace Sys2Proof.Machine

/-! ## Polygons -/

/-- The loop's triples of words are the corners of the polygon. -/
theorem map_wordVertex_polygonLoop (s : State) (f : PrimFlags) (t : Texture) (op : Opcode) (lead : Word) (i n : Nat)
    (args : List Word) :
    (polygonLoop op lead i n args).map (fun k => wordVertex s f t k.1 k.2.1 k.2.2)
      = (polygonLoop op lead i n args).map fun k => vertexRecord s f t (wordCorner (op.getLsbD 2) k.1 k.2.1 k.2.2) := by
  induction n generalizing i args with
  | zero => rfl
  | succ n ih =>
    simp only [polygonLoop, List.map_cons, ih, wordVertex_eq]
    cases op.getLsbD 2 <;> rfl

/-- A polygon emits the records of its words: each shape's word order is the loop's (42_primitives R199, R200). -/
theorem exec_of_decodePolygon {cmd : Word} {args : List Word} {i : Instr} (hk : kindOf (opOf cmd) = some .polygon)
    (h : decodePolygon (opOf cmd) (colorOf cmd) args = .ok i) (s : State) :
    exec i s = s.commit ((s.emit (polygonRecords s cmd args)).dispatched .idle) := by
  simp only [polygonRecords, map_wordVertex_polygonLoop]
  obtain ⟨n, hop⟩ := polygon_opcode _ hk
  rw [hop] at h ⊢
  fin_cases n
  iterate 4 (obtain ⟨_, _, _, rfl, rfl⟩ := takeFlat3_ok h; rfl)
  iterate 4 (obtain ⟨_, _, _, _, _, _, rfl, rfl⟩ := takeFlatTex3_ok h; rfl)
  iterate 4 (obtain ⟨_, _, _, _, rfl, rfl⟩ := takeFlat4_ok h; rfl)
  iterate 4 (obtain ⟨_, _, _, _, _, _, _, _, rfl, rfl⟩ := takeFlatTex4_ok h; rfl)
  iterate 4 (obtain ⟨_, _, _, _, _, rfl, rfl⟩ := takeGouraud3_ok h; rfl)
  iterate 4 (obtain ⟨_, _, _, _, _, _, _, _, rfl, rfl⟩ := takeGouraudTex3_ok h; rfl)
  iterate 4 (obtain ⟨_, _, _, _, _, _, _, rfl, rfl⟩ := takeGouraud4_ok h; rfl)
  iterate 4 (obtain ⟨_, _, _, _, _, _, _, _, _, _, _, rfl, rfl⟩ := takeGouraudTex4_ok h; rfl)

/-- Settles O28: the words decode to the command, whose shape the opcode's bits give. -/
theorem polygonsEmitTheirTriangles : Obligations.PolygonsEmitTheirTriangles := by
  intro i cmd args s h he hf
  obtain ⟨hk, hdec⟩ := decodePolygon_of_words h he
  obtain ⟨hlo, hhi⟩ := (kindOf_polygon_iff _).1 hk
  obtain ⟨hlen, -, -⟩ := decodePolygon_ok hk hdec
  rw [exec_of_decodePolygon hk hdec]
  exact ⟨hlo, hhi, hlen, commit_emit hf _⟩

/-! ## Lines -/

/-- A single line emits the segment of its words (42_primitives R205). -/
theorem exec_of_decodeLine_single {cmd : Word} {args : List Word} {i : Instr} (hk : kindOf (opOf cmd) = some .line)
    (hp : (opOf cmd).getLsbD 3 = false) (h : decodeLine (opOf cmd) (colorOf cmd) args = .ok i) (s : State) :
    exec i s = s.commit ((s.emit [lineWordRecord s cmd args]).dispatched .idle) := by
  simp only [lineWordRecord, segmentRecord_eq]
  obtain ⟨n, hop⟩ := line_opcode _ hk
  rw [hop] at h hp ⊢
  fin_cases n
  iterate 8 (obtain ⟨_, _, rfl, rfl⟩ := takeLineFlat_ok h; rfl)
  iterate 8 exact absurd hp (by decide)
  iterate 8 (obtain ⟨_, _, _, rfl, rfl⟩ := takeLineGouraud_ok h; rfl)
  iterate 8 exact absurd hp (by decide)

/-- Settles O29: as for the polygons, the opcode's bit 3 being 0. -/
theorem linesEmitTheirSegment : Obligations.LinesEmitTheirSegment := by
  intro i cmd args s h he hf
  obtain ⟨hk, hbit, hdec⟩ := decodeLine_of_words h he
  obtain ⟨hlo, hhi⟩ := (kindOf_line_iff _).1 hk
  obtain ⟨hlen, -, -⟩ := decodeLine_single hk hbit hdec
  rw [exec_of_decodeLine_single hk hbit hdec]
  exact ⟨hlo, hhi, hbit, hlen, commit_emit hf _⟩

/-! ## Polylines -/

/-- A polyline emits the segments of its words, whatever their number (42_primitives R206). -/
theorem exec_polyline_of_words {i : Instr} {cmd : Word} {args : List Word} (h : i.isPolyline = true)
    (he : encode i = drawWrites (cmd :: args)) (s : State) :
    kindOf (opOf cmd) = some .line ∧ (opOf cmd).getLsbD 3 = true
      ∧ exec i s = s.commit ((s.emit (polylineWordRecords s cmd args)).dispatched .idle) := by
  obtain ⟨op, c, as, hk, hbit, hcmd, hexec⟩ := encode_of_isPolyline h
  obtain ⟨rfl, rfl, rfl⟩ := words_of_drawCommand hcmd he
  rw [← polylineRecords_eq]
  exact ⟨hk, hbit, hexec s⟩

/-- Settles O30: the model's chains of segments are the loop of R206 (`polylineRecords_eq`). -/
theorem polylinesEmitTheirSegments : Obligations.PolylinesEmitTheirSegments := by
  intro i cmd args s h he hf
  obtain ⟨hk, hbit, hexec⟩ := exec_polyline_of_words h he s
  obtain ⟨hlo, hhi⟩ := (kindOf_line_iff _).1 hk
  rw [hexec]
  exact ⟨hlo, hhi, hbit, commit_emit hf _⟩

/-- After the first vertex, each segment takes one word, or two when shaded. -/
theorem length_polylineLoop (seg : Word → Word → Word → Word → Emission) (g : Bool) (lead : Word) (a : Nat → Word)
    (n fuel p : Nat) (p1 c1 : Word) :
    (polylineLoop seg g lead a n fuel 1 p p1 c1).length = min fuel ((n - p) / (if g then 2 else 1)) := by
  induction fuel generalizing p p1 c1 with
  | zero => simp [polylineLoop]
  | succ fuel ih =>
    cases g
    all_goals
      simp only [polylineLoop, polylineLoop_index (i := 1), Nat.succ_ne_zero, Bool.false_eq_true, if_false, if_true]
      split
      case isTrue =>
        rw [List.length_nil]
        omega
      case isFalse =>
        rw [List.length_cons, ih]
        simp only [Bool.false_eq_true, if_false, if_true]
        omega

theorem length_polylineWordRecords (s : State) (cmd : Word) (args : List Word) :
    (polylineWordRecords s cmd args).length
      = min 15 ((polylineDataCount s.cfg args - 1) / (if (opOf cmd).getLsbD 4 then 2 else 1)) := by
  rw [polylineWordRecords, polylineLoop_first, length_polylineLoop]

/-- Settles O31: the number of rounds of the loop. -/
theorem polylineSegmentCounts : Obligations.PolylineSegmentCounts := by
  intro i cmd args s h he hf
  obtain ⟨-, -, hexec⟩ := exec_polyline_of_words h he s
  refine ⟨_, hexec.trans (State.commit_live hf), ?_⟩
  rw [← length_polylineWordRecords, State.dispatched_emissions, State.emit_emissions, List.length_append]

/-! ## Rectangles -/

/-- A field of a field. -/
theorem extract_extract {w k j n b : Nat} (x : BitVec w) (h : k + j ≤ n) :
    (x.extractLsb' b n).extractLsb' k j = x.extractLsb' (b + k) j := by
  apply BitVec.eq_of_getLsbD_eq
  intro i hi
  have hin : k + i < n := by omega
  simp [hi, hin, Nat.add_assoc]

/-- The size of a variable rectangle from its size word (42_primitives R212). -/
theorem rectExtent_vertexOf_x (w : Word) : rectExtent (vertexOf w).x = (w.extractLsb' 0 10).toInt := by
  rw [rectExtent, sext_ten, vertexOf, extract_extract _ (by decide)]

theorem rectExtent_vertexOf_y (w : Word) : rectExtent (vertexOf w).y = (w.extractLsb' 16 10).toInt := by
  rw [rectExtent, sext_ten, vertexOf, extract_extract _ (by decide)]

/-- A rectangle emits the record of its words (42_primitives R211, R214). -/
theorem exec_of_decodeRect {cmd : Word} {args : List Word} {i : Instr} (hk : kindOf (opOf cmd) = some .rect)
    (h : decodeRect (opOf cmd) (colorOf cmd) args = .ok i) (s : State) :
    exec i s = s.commit ((s.emit [rectWordRecord s cmd args]).dispatched .idle) := by
  simp only [rectWordRecord, wordVertex_eq, ← rectExtent_vertexOf_x, ← rectExtent_vertexOf_y]
  obtain ⟨n, hop⟩ := rect_opcode _ hk
  rw [hop] at h ⊢
  fin_cases n
  iterate 4 (obtain ⟨_, _, rfl, rfl⟩ := takeRectSized_ok h; rfl)
  iterate 4 (obtain ⟨_, _, _, rfl, rfl⟩ := takeRectTexSized_ok h; rfl)
  iterate 3
    iterate 4 (obtain ⟨_, rfl, rfl⟩ := takeRect_ok h; rfl)
    iterate 4 (obtain ⟨_, _, rfl, rfl⟩ := takeRectTex_ok h; rfl)

/-- Settles O32: as for the polygons. -/
theorem rectanglesEmitTheirRecord : Obligations.RectanglesEmitTheirRecord := by
  intro i cmd args s h he hf
  obtain ⟨hk, hdec⟩ := decodeRect_of_words h he
  obtain ⟨hlo, hhi⟩ := (kindOf_rect_iff _).1 hk
  obtain ⟨hlen, -, -⟩ := decodeRect_ok hk hdec
  rw [exec_of_decodeRect hk hdec]
  exact ⟨hlo, hhi, hlen, commit_emit hf _⟩

end Sys2Proof.Machine
end

section
/-! SUPPORT. `FILL_RECT`: its geometry in arithmetic, and every cell and byte after it (42_primitives R197, R198). -/

namespace Sys2Proof.Machine

/-! ## Geometry -/

/-- A field of `m` bits above `k` cleared ones, in arithmetic. -/
theorem and_field_mask (x m k : Nat) : x &&& (2 ^ m - 1) * 2 ^ k = x / 2 ^ k % 2 ^ m * 2 ^ k := by
  apply Nat.eq_of_testBit_eq
  intro j
  simp only [Nat.testBit_and, Nat.testBit_mul_two_pow, Nat.testBit_two_pow_sub_one, Nat.testBit_mod_two_pow,
    Nat.testBit_div_two_pow]
  by_cases hj : k ≤ j
  · simp [hj, Bool.and_comm]
  · simp [hj]

theorem fillX0_eq (pos : PairWord) : fillX0 pos = pos.lo.toNat % 1024 / 16 * 16 := by
  have h := and_field_mask pos.lo.toNat 6 4
  rw [fillX0, BitVec.toNat_and, show (0x3F0#16).toNat = (2 ^ 6 - 1) * 2 ^ 4 from rfl, h]
  omega

theorem fillY0_eq (pos : PairWord) : fillY0 pos = pos.hi.toNat % 512 := by
  rw [fillY0, BitVec.toNat_and]
  exact Nat.and_two_pow_sub_one_eq_mod _ 9

theorem fillHeight_eq (size : PairWord) : fillHeight size = size.hi.toNat % 512 := by
  rw [fillHeight, BitVec.toNat_and]
  exact Nat.and_two_pow_sub_one_eq_mod _ 9

theorem fillWidth_eq (size : PairWord) : fillWidth size = (size.lo.toNat % 1024 + 15) / 16 * 16 := by
  have hlow : (size.lo &&& 0x3FF#16).toNat = size.lo.toNat % 1024 := by
    rw [BitVec.toNat_and]
    exact Nat.and_two_pow_sub_one_eq_mod _ 10
  have h := and_field_mask ((size.lo &&& 0x3FF#16) + 0xF#16).toNat 7 4
  rw [fillWidth, BitVec.toNat_and, show (0x7F0#16).toNat = (2 ^ 7 - 1) * 2 ^ 4 from rfl, h, BitVec.toNat_add, hlow]
  simp only [BitVec.toNat_ofNat]
  omega

/-! ## The fill -/

/-- Settles O27: the cells by `fbRead_fillVram`; a byte of no filled cell reads as before since its cell does. -/
theorem fillWritesItsRectangle : Obligations.FillWritesItsRectangle := by
  intro c pos size s hf hwf x0 y0 w h inside
  have hm := fillVram_wf c pos size hwf
  have hcell (x : BitVec 10) (y : BitVec 9) : (fillVram c pos size s.vram).fbRead x y =
      if (y0 ≤ y.toNat ∧ y.toNat < y0 + h) ∧ x0 ≤ x.toNat ∧ x.toNat < x0 + w then to15 c else s.vram.fbRead x y := by
    rw [fbRead_fillVram c pos size hwf, fillX0_eq, fillY0_eq, fillWidth_eq, fillHeight_eq]
  have hout (x : BitVec 10) (y : BitVec 9) (hn : ¬ inside x y) :
      (fillVram c pos size s.vram).fbRead x y = s.vram.fbRead x y := by
    rw [hcell, if_neg]
    rintro ⟨⟨hylo, hyhi⟩, hxlo, hxhi⟩
    exact hn ⟨hxlo, hxhi, hylo, hyhi⟩
  refine ⟨_, _, Decoder.isCleared_cleared s.dec .idle, hm, State.commit_live hf, ?_, hout, ?_⟩
  · rintro x y ⟨hxlo, hxhi, hylo, hyhi⟩
    rw [hcell, if_pos ⟨⟨hylo, hyhi⟩, hxlo, hxhi⟩]
  · intro a ha
    refine Memory.readByte_eq_of_fbRead hm hwf fun x y hxy => hout x y fun hin => ?_
    obtain ⟨hlow, hhigh⟩ := ha x y hin
    exact hxy.elim hlow hhigh

end Sys2Proof.Machine
end

section
/-! SUPPORT. The headers of the block copies: what each leaves in the state (43_vram_copy R241 to R244, R249, R252,
R253). -/

namespace Sys2Proof.Machine

/-! ## Geometry -/

theorem normX_eq (x : Half) : normX x = BitVec.ofNat 10 (x.toNat % 1024) := by
  apply BitVec.eq_of_toNat_eq
  simp [normX]

theorem normY_eq (y : Half) : normY y = BitVec.ofNat 9 (y.toNat % 512) := by
  apply BitVec.eq_of_toNat_eq
  simp [normY]

/-- A transfer rectangle in arithmetic: 0 means the full span (43_vram_copy R241). -/
theorem transferOf_eq (pos size : PairWord) :
    transferOf pos size = {
      x0 := BitVec.ofNat 10 (pos.lo.toNat % 1024), y0 := BitVec.ofNat 9 (pos.hi.toNat % 512)
      w := if size.lo.toNat % 1024 = 0 then 1024 else size.lo.toNat % 1024
      h := if size.hi.toNat % 512 = 0 then 512 else size.hi.toNat % 512
      cx := 0, cy := 0 } := by
  rw [transferOf, normX_eq, normY_eq, normW_eq, normH_eq]

theorem transferOf_place (pos size : PairWord) : (transferOf pos size).place = 0 := by
  simp [Cursor.place, transferOf]

/-! ## The two transfers -/

theorem exec_copyCpuVram (r : Color) (dst size : PairWord) {s : State} (hf : s.fault = false) :
    exec (.copyCpuVram r dst size) s = .next { s with
      dec := s.dec.cleared .transfer
      diags := s.diags ++ if r = 0#24 then [] else [.diag .reservedFieldNonZero (0xA0#8 ++ r)]
      wr := transferOf dst size } := by
  calc
    exec (.copyCpuVram r dst size) s
      = s.commit (((reservedCheck 0xA0#8 r s).setWr (transferOf dst size)).dispatched .transfer) := rfl
    _ = _ := by rw [State.commit_live hf, reservedCheck_eq]; rfl

theorem exec_copyVramCpu (r : Color) (src size : PairWord) {s : State} (hf : s.fault = false) :
    exec (.copyVramCpu r src size) s = .next { s with
      dec := s.dec.cleared .idle
      diags := s.diags ++ if r = 0#24 then [] else [.diag .reservedFieldNonZero (0xC0#8 ++ r)]
      readMode := .vramTransfer
      rd := transferOf src size } := by
  calc
    exec (.copyVramCpu r src size) s
      = s.commit ((((reservedCheck 0xC0#8 r s).setRd (transferOf src size)).setReadMode .vramTransfer).dispatched .idle) := rfl
    _ = _ := by rw [State.commit_live hf, reservedCheck_eq]; rfl

/-- Settles O34: by what the header does, its rectangle in arithmetic. -/
theorem uploadHeaderArmsTransfer : Obligations.UploadHeaderArmsTransfer := by
  intro r dst size s hf
  rw [← transferOf_eq]
  exact ⟨_, Decoder.isCleared_cleared _ .transfer, exec_copyCpuVram r dst size hf⟩

/-- Settles O35: by what the header does, its rectangle in arithmetic. -/
theorem readbackHeaderArmsTransfer : Obligations.ReadbackHeaderArmsTransfer := by
  intro r src size s hf
  rw [← transferOf_eq]
  exact ⟨_, Decoder.isCleared_cleared _ .idle, exec_copyVramCpu r src size hf⟩

/-! ## The copy -/

/-- The copy or its abort, the bounds test made on the raw sizes (43_vram_copy R253). -/
theorem copyOrAbort_eq (src dst size : PairWord) (s : State) :
    copyOrAbort src dst size s = { s with
      vram := if 1024 < size.lo.toNat ∨ 512 < size.hi.toNat then s.vram
        else copyVram s.bank.setMask s.bank.checkMask src dst size s.vram
      diags := s.diags ++ if 1024 < size.lo.toNat ∨ 512 < size.hi.toNat
        then [.diag .copyBoundsAbort (size.hi ++ size.lo)] else [] } := by
  unfold copyOrAbort
  by_cases hover : 1024 < size.lo.toNat ∨ 512 < size.hi.toNat
  · rw [if_pos (by simpa [copyOutOfBounds] using hover), if_pos hover, if_pos hover]
    rfl
  · rw [if_neg (by simpa [copyOutOfBounds] using hover), if_neg hover, if_neg hover, List.append_nil]
    rfl

theorem exec_copyVramVram (r : Color) (src dst size : PairWord) {s : State} (hf : s.fault = false) :
    exec (.copyVramVram r src dst size) s = .next { s with
      vram := if 1024 < size.lo.toNat ∨ 512 < size.hi.toNat then s.vram
        else copyVram s.bank.setMask s.bank.checkMask src dst size s.vram
      dec := s.dec.cleared .idle
      diags := s.diags ++ (if r = 0#24 then [] else [.diag .reservedFieldNonZero (0x80#8 ++ r)])
        ++ if 1024 < size.lo.toNat ∨ 512 < size.hi.toNat then [.diag .copyBoundsAbort (size.hi ++ size.lo)] else [] } := by
  calc
    exec (.copyVramVram r src dst size) s
      = s.commit ((copyOrAbort src dst size (reservedCheck 0x80#8 r s)).dispatched .idle) := rfl
    _ = _ := by rw [State.commit_live hf, copyOrAbort_eq, reservedCheck_eq]; rfl

/-- A copy that is not aborted, with the reserved field 0 (43_vram_copy R252). -/
theorem exec_copyVramVram_within (src dst size : PairWord) {s : State} (hf : s.fault = false)
    (hw : size.lo.toNat ≤ 1024) (hh : size.hi.toNat ≤ 512) :
    ∃ t, exec (.copyVramVram 0#24 src dst size) s = .next t
      ∧ t.vram = copyVram s.bank.setMask s.bank.checkMask src dst size s.vram :=
  ⟨_, exec_copyVramVram 0#24 src dst size hf, if_neg (by omega)⟩

end Sys2Proof.Machine
end

section
/-! SUPPORT. Masked writes at a list of places: the one form of an upload and of a copy (43_vram_copy R246, R252), and
what the cells hold after them. -/

namespace Sys2Proof.Machine

/-! ## One masked write -/

theorem Grid.storeMasked_of_ne {g : Grid} {x x' : BitVec 10} {y y' : BitVec 9} {v : Half} {sm cm : Bool}
    (h : (x, y) ≠ (x', y')) : g.storeMasked x y v sm cm x' y' = g x' y' :=
  if_neg fun ⟨hx, hy, _⟩ => h (Prod.ext hx.symm hy.symm)

/-- A write that the mask check does not drop (20_memory R69). -/
theorem Grid.storeMasked_self {g : Grid} {x : BitVec 10} {y : BitVec 9} {v : Half} {sm cm : Bool}
    (h : ¬ (cm = true ∧ (g x y).getLsbD 15 = true)) : g.storeMasked x y v sm cm x y = maskedValue v sm :=
  if_pos ⟨rfl, rfl, h⟩

/-- A byte of neither half of a cell belongs to another cell. -/
theorem cell_ne_of_byte_ne {c : BitVec 10 × BitVec 9} {x : BitVec 10} {y : BitVec 9} {a : Nat}
    (hlow : a ≠ cellAddress c.1 c.2) (hhigh : a ≠ cellAddress c.1 c.2 + 1)
    (hxy : a = cellAddress x y ∨ a = cellAddress x y + 1) : c ≠ (x, y) := by
  rintro rfl
  exact hxy.elim hlow hhigh

theorem maskedValue_false (v : Half) : maskedValue v false = v := by
  apply BitVec.eq_of_getLsbD_eq
  intro i hi
  rw [maskedValue, Bool.or_false, BitVec.getLsbD_append]
  by_cases h : i < 15
  · simp [h]
  · obtain rfl : i = 15 := by omega
    simp

/-! ## Masked writes at a list of places -/

/-- Masked writes at the cells of some places, in order; the value for a place may depend on the cells so far. -/
def Grid.storePlaces (sm cm : Bool) (cell : Nat → BitVec 10 × BitVec 9) (value : Grid → Nat → Half) (places : List Nat)
    (g : Grid) : Grid :=
  places.foldl (fun g k => g.storeMasked (cell k).1 (cell k).2 (value g k) sm cm) g

/-- The loops of `COPY_VRAM_VRAM` write, place after place, the source cell as it is by then. -/
theorem Grid.copy_eq_storePlaces (sm cm : Bool) (sx : BitVec 10) (sy : BitVec 9) (dx : BitVec 10) (dy : BitVec 9)
    (w h : Nat) (g : Grid) :
    Grid.copy sm cm sx sy dx dy w h g = g.storePlaces sm cm (rasterCell dx dy w)
      (fun g k => g (rasterCell sx sy w k).1 (rasterCell sx sy w k).2) (List.range (w * h)) := rfl

/-- Two grids that agree off the cells of some places. -/
def Grid.AgreeOff (cell : Nat → BitVec 10 × BitVec 9) (places : List Nat) (g g' : Grid) : Prop :=
  ∀ x y, (∀ k ∈ places, cell k ≠ (x, y)) → g' x y = g x y

section
variable {sm cm : Bool} {cell : Nat → BitVec 10 × BitVec 9} {value : Grid → Nat → Half}

theorem Grid.storePlaces_cons (k : Nat) (places : List Nat) (g : Grid) :
    g.storePlaces sm cm cell value (k :: places) =
      (g.storePlaces sm cm cell value [k]).storePlaces sm cm cell value places := rfl

theorem Grid.storePlaces_range_succ (n : Nat) (g : Grid) :
    g.storePlaces sm cm cell value (List.range (n + 1)) =
      (g.storePlaces sm cm cell value (List.range n)).storeMasked (cell n).1 (cell n).2
        (value (g.storePlaces sm cm cell value (List.range n)) n) sm cm := by
  simp only [Grid.storePlaces, List.range_succ, List.foldl_append, List.foldl_cons, List.foldl_nil]

/-- Cells at none of the places keep their contents. -/
theorem Grid.storePlaces_agreeOff (places : List Nat) (g : Grid) :
    g.AgreeOff cell places (g.storePlaces sm cm cell value places) := by
  induction places generalizing g with
  | nil => exact fun _ _ _ => rfl
  | cons k places ih =>
    intro x y hne
    rw [storePlaces_cons, ih _ x y fun j hj => hne j (List.mem_cons_of_mem k hj)]
    exact storeMasked_of_ne (hne k List.mem_cons_self)

/-- At distinct cells, none dropped, whose values do not depend on the cells written, each ends with its own value. -/
theorem Grid.storePlaces_apply {places : List Nat} {g : Grid}
    (hdistinct : places.Pairwise fun i j => cell i ≠ cell j)
    (hkept : ∀ k ∈ places, ¬ (cm = true ∧ (g (cell k).1 (cell k).2).getLsbD 15 = true))
    (hvalue : ∀ k ∈ places, ∀ g', g.AgreeOff cell places g' → value g' k = value g k) {k : Nat} (hk : k ∈ places) :
    g.storePlaces sm cm cell value places (cell k).1 (cell k).2 = maskedValue (value g k) sm := by
  induction places generalizing g with
  | nil => cases hk
  | cons i places ih =>
    obtain ⟨hi, hdistinct⟩ := List.pairwise_cons.1 hdistinct
    have hfirst := storePlaces_agreeOff (sm := sm) (cm := cm) (cell := cell) (value := value) [i] g
    rw [storePlaces_cons]
    rcases List.mem_cons.1 hk with rfl | hk
    · rw [storePlaces_agreeOff places _ _ _ fun j hj => (hi j hj).symm]
      exact storeMasked_self (hkept k List.mem_cons_self)
    · have hother : ∀ j ∈ places, ∀ l ∈ [i], cell l ≠ cell j := fun j hj l hl => List.mem_singleton.1 hl ▸ hi j hj
      have hagree : ∀ g', (g.storePlaces sm cm cell value [i]).AgreeOff cell places g' → g.AgreeOff cell (i :: places) g' :=
        fun g' h x y hne => (h x y fun j hj => hne j (List.mem_cons_of_mem i hj)).trans
          (hfirst x y fun j hj => hne j (List.mem_singleton.1 hj ▸ List.mem_cons_self))
      have hsame : ∀ j ∈ places, value (g.storePlaces sm cm cell value [i]) j = value g j := fun j hj =>
        hvalue j (List.mem_cons_of_mem i hj) _ (hagree _ fun _ _ _ => rfl)
      rw [← hsame k hk]
      refine ih hdistinct (fun j hj => ?_) (fun j hj g' h => ?_) hk
      · rw [hfirst (cell j).1 (cell j).2 (hother j hj)]
        exact hkept j (List.mem_cons_of_mem i hj)
      · exact (hvalue j (List.mem_cons_of_mem i hj) g' (hagree g' h)).trans (hsame j hj).symm

end

/-! ## The places of a rectangle -/

theorem eq_of_add_ofNat_eq {n a b : Nat} {x : BitVec n} (ha : a < 2 ^ n) (hb : b < 2 ^ n)
    (h : x + BitVec.ofNat n a = x + BitVec.ofNat n b) : a = b := by
  have h := congrArg BitVec.toNat ((BitVec.add_right_inj x).1 h)
  rwa [BitVec.toNat_ofNat, BitVec.toNat_ofNat, Nat.mod_eq_of_lt ha, Nat.mod_eq_of_lt hb] at h

/-- No two places of a rectangle that fits the framebuffer are one cell, wrapped or not (43_vram_copy R242). -/
theorem rasterCell_inj {x0 : BitVec 10} {y0 : BitVec 9} {w h k j : Nat} (hw : w ≤ 1024) (hh : h ≤ 512) (hk : k < w * h)
    (hj : j < w * h) (he : rasterCell x0 y0 w k = rasterCell x0 y0 w j) : k = j := by
  have hpos : 0 < w := Nat.pos_of_mul_pos_right (Nat.zero_lt_of_lt hk)
  obtain ⟨hx, hy⟩ := Prod.mk.inj he
  have hkx := Nat.mod_lt k hpos
  have hjx := Nat.mod_lt j hpos
  have hky := Nat.div_lt_of_lt_mul hk
  have hjy := Nat.div_lt_of_lt_mul hj
  have hcolumn : k % w = j % w := eq_of_add_ofNat_eq (by omega) (by omega) hx
  have hrow : k / w = j / w := eq_of_add_ofNat_eq (by omega) (by omega) hy
  rw [← Nat.div_add_mod k w, hcolumn, hrow, Nat.div_add_mod]

theorem rasterCell_pairwise (x0 : BitVec 10) (y0 : BitVec 9) {w h : Nat} (hw : w ≤ 1024) (hh : h ≤ 512) :
    (List.range (w * h)).Pairwise fun i j => rasterCell x0 y0 w i ≠ rasterCell x0 y0 w j :=
  List.pairwise_lt_range.imp_of_mem fun hi hj hlt he =>
    hlt.ne (rasterCell_inj hw hh (List.mem_range.1 hi) (List.mem_range.1 hj) he)

/-- The first row of a rectangle. -/
theorem rasterCell_of_lt (x0 : BitVec 10) (y0 : BitVec 9) {w k : Nat} (h : k < w) :
    rasterCell x0 y0 w k = (x0 + BitVec.ofNat 10 k, y0) := by
  simp [rasterCell, Nat.mod_eq_of_lt h, Nat.div_eq_of_lt h]

/-! ## The copy's cells -/

/-- Settles O36: the cells by `grid_copyVram`; a byte of no destination cell reads as before since its cell does. -/
theorem vramCopyRunsOrAborts : Obligations.VramCopyRunsOrAborts := by
  intro r src dst size s hf hwf oversize w h sx sy dx dy
  have hm := copyVram_wf s.bank.setMask s.bank.checkMask src dst size hwf
  have hgrid : (copyVram s.bank.setMask s.bank.checkMask src dst size s.vram).grid =
      Grid.copy s.bank.setMask s.bank.checkMask sx sy dx dy w h s.vram.grid := by
    rw [grid_copyVram _ _ _ _ _ hwf, normX_eq, normX_eq, normY_eq, normY_eq, normW_eq, normH_eq]
  refine ⟨_, _, Decoder.isCleared_cleared s.dec .idle, ?_, exec_copyVramVram r src dst size hf, fun hover => if_pos hover,
    fun hwithin x y => ?_, fun a ha => ?_⟩
  · split
    · exact hwf
    · exact hm
  · rw [if_neg hwithin]
    exact congrFun (congrFun hgrid x) y
  · split
    · rfl
    · refine Memory.readByte_eq_of_fbRead hm hwf fun x y hxy => ?_
      refine (congrFun (congrFun hgrid x) y).trans (Grid.storePlaces_agreeOff _ _ x y fun k hk => ?_)
      obtain ⟨hlow, hhigh⟩ := ha k (List.mem_range.1 hk)
      exact cell_ne_of_byte_ne hlow hhigh hxy

/-- Settles O37: the destination's places are distinct cells, and no source cell is among them. -/
theorem disjointVramCopyMovesCells : Obligations.DisjointVramCopyMovesCells := by
  intro src dst size s hf hwf hcheck hlo hhi w h source target hdisjoint
  obtain ⟨t, hexec, hvram⟩ := exec_copyVramVram_within src dst size hf hlo hhi
  have hw : normW size.lo = w := normW_eq size.lo
  have hh : normH size.hi = h := normH_eq size.hi
  have hgrid : t.vram.grid = s.vram.grid.storePlaces s.bank.setMask false target
      (fun g k => g (source k).1 (source k).2) (List.range (w * h)) := by
    rw [hvram, grid_copyVram _ _ _ _ _ hwf, Grid.copy_eq_storePlaces, hcheck, hw, hh]
    rfl
  refine ⟨t, hexec, fun k hk => ?_, fun x y hne => ?_⟩
  · refine (congrFun (congrFun hgrid _) _).trans (Grid.storePlaces_apply ?_ (by simp) ?_ (List.mem_range.2 hk))
    · exact rasterCell_pairwise _ _ (hw ▸ (normW_bounds size.lo).2) (hh ▸ (normH_bounds size.hi).2)
    · exact fun k hk g' hagree => hagree _ _ fun j hj => (hdisjoint k j (List.mem_range.1 hk) (List.mem_range.1 hj)).symm
  · exact (congrFun (congrFun hgrid x) y).trans
      (Grid.storePlaces_agreeOff _ _ x y fun k hk => hne k (List.mem_range.1 hk))

/-- Along one row, writes that each take their value from the cell before spread the first cell (43_vram_copy R254). -/
theorem Grid.storePlaces_spread (x0 : BitVec 10) (y : BitVec 9) (g : Grid) {w : Nat} (hw : w < 1024) :
    ∀ n, n ≤ w → ∀ i, i ≤ n →
      g.storePlaces false false (rasterCell (x0 + 1#10) y w)
        (fun g k => g (rasterCell x0 y w k).1 (rasterCell x0 y w k).2) (List.range n) (x0 + BitVec.ofNat 10 i) y
        = g x0 y := by
  intro n
  induction n with
  | zero =>
    intro _ i hi
    obtain rfl : i = 0 := by omega
    exact congrArg (g · y) (BitVec.add_zero x0)
  | succ n ih =>
    intro hn i hi
    have hnext : x0 + 1#10 + BitVec.ofNat 10 n = x0 + BitVec.ofNat 10 (n + 1) := by
      rw [BitVec.add_assoc, Nat.add_comm n 1, BitVec.ofNat_add]
    rw [storePlaces_range_succ, rasterCell_of_lt _ _ hn, rasterCell_of_lt _ _ hn, ih (by omega) n le_rfl, hnext]
    by_cases hlast : i = n + 1
    · rw [hlast, storeMasked_self (by simp), maskedValue_false]
    · rw [storeMasked_of_ne, ih (by omega) i (by omega)]
      exact fun he => hlast (eq_of_add_ofNat_eq (by omega) (by omega) (Prod.mk.inj he).1).symm

/-- Settles O38: source and destination are one row, one column apart. -/
theorem overlappingCopySpreadsFirstCell : Obligations.OverlappingCopySpreadsFirstCell := by
  intro x y n s hf hwf hset hcheck hn hx hy
  have hlo : (BitVec.ofNat 16 n).toNat = n := by
    rw [BitVec.toNat_ofNat]
    omega
  have hw : normW (BitVec.ofNat 16 n) = n := by
    rw [normW_eq, hlo]
    split <;> omega
  have hcolumn (a : Nat) : normX (BitVec.ofNat 16 a) = BitVec.ofNat 10 a := by
    apply BitVec.eq_of_toNat_eq
    simp [normX]
  have hrow (a : Nat) : normY (BitVec.ofNat 16 a) = BitVec.ofNat 9 a := by
    apply BitVec.eq_of_toNat_eq
    simp [normY]
  obtain ⟨t, hexec, hvram⟩ := exec_copyVramVram_within ⟨BitVec.ofNat 16 x, BitVec.ofNat 16 y⟩
    ⟨BitVec.ofNat 16 (x + 1), BitVec.ofNat 16 y⟩ ⟨BitVec.ofNat 16 n, 1#16⟩ hf (by rw [hlo]; omega)
    (show (1#16).toNat ≤ 512 by decide)
  have hgrid : t.vram.grid = s.vram.grid.storePlaces false false
      (rasterCell (BitVec.ofNat 10 x + 1#10) (BitVec.ofNat 9 y) n)
      (fun g k => g (rasterCell (BitVec.ofNat 10 x) (BitVec.ofNat 9 y) n k).1
        (rasterCell (BitVec.ofNat 10 x) (BitVec.ofNat 9 y) n k).2) (List.range n) := by
    rw [hvram, grid_copyVram _ _ _ _ _ hwf, hset, hcheck, hcolumn, hcolumn, hrow, hw, BitVec.ofNat_add,
      Grid.copy_eq_storePlaces, show normH 1#16 = 1 from rfl, Nat.mul_one]
  refine ⟨t, hexec, fun i hi => ?_⟩
  rw [BitVec.ofNat_add]
  exact (congrFun (congrFun hgrid _) _).trans (Grid.storePlaces_spread _ _ _ (by omega) n le_rfl i hi)

end Sys2Proof.Machine
end

section
/-! SUPPORT. The data words of an upload, one and many (43_vram_copy R245 to R248). -/

namespace Sys2Proof.Machine

/-! ## Runs -/

theorem runSteps_add {m : Nat} {s t : State} (h : runSteps m s = .next t) (n : Nat) :
    runSteps (m + n) s = runSteps n t := by
  induction m generalizing s with
  | zero =>
    cases h
    rw [Nat.zero_add]
  | succ m ih =>
    rw [Nat.succ_add]
    simp only [runSteps] at h ⊢
    cases hstep : step s with
    | next u => exact ih (by simpa only [hstep] using h)
    | fault => simp [hstep] at h
    | refused => simp [hstep] at h

theorem runInstrs_append {is : List Instr} {s t : State} (h : runInstrs is s = .next t) (js : List Instr) :
    runInstrs (is ++ js) s = runInstrs js t := by
  induction is generalizing s with
  | nil =>
    cases h
    rfl
  | cons i is ih =>
    simp only [List.cons_append, runInstrs] at h ⊢
    cases hexec : exec i s with
    | next u => exact ih (by simpa only [hexec] using h)
    | fault => simp [hexec] at h
    | refused => simp [hexec] at h

theorem runInstrs_singleton (i : Instr) (s : State) : runInstrs [i] s = exec i s := by
  simp only [runInstrs]
  cases exec i s <;> rfl

/-- The invariant along a run. -/
theorem State.Inv.runSteps {n : Nat} {s t : State} (h : s.Inv) (hrun : runSteps n s = .next t) : t.Inv := by
  induction n generalizing s with
  | zero =>
    cases hrun
    exact h
  | succ n ih =>
    simp only [Machine.runSteps] at hrun
    cases hstep : step s with
    | next u => exact ih (everyStepKeepsInvariant s u h hstep) (by simpa only [hstep] using hrun)
    | fault => simp [hstep] at hrun
    | refused => simp [hstep] at hrun

/-! ## The pixels of a list of words -/

/-- The `k`-th half-word, low halves first (43_vram_copy R245). -/
def pixelOf (ws : List Word) (k : Nat) : Half := (ws.getD (k / 2) 0#32).extractLsb' (16 * (k % 2)) 16

theorem pixelOf_low {ws : List Word} {k : Nat} (h : k < ws.length) : pixelOf ws (2 * k) = ws[k].extractLsb' 0 16 := by
  simp [pixelOf, h]

theorem pixelOf_high {ws : List Word} {k : Nat} (h : k < ws.length) :
    pixelOf ws (2 * k + 1) = ws[k].extractLsb' 16 16 := by
  have hdiv : (2 * k + 1) / 2 = k := by omega
  have hmod : (2 * k + 1) % 2 = 1 := by omega
  simp [pixelOf, hdiv, hmod, h]

theorem pixelOf_append {ws : List Word} {k : Nat} (h : k < 2 * ws.length) (vs : List Word) :
    pixelOf (ws ++ vs) k = pixelOf ws k := by
  rw [pixelOf, List.getD_append _ _ _ _ (by omega), pixelOf]

/-! ## One data word of an upload -/

/-- The state once the write cursor has come to place `j` of its rectangle, VRAM by then being `m`; past the last place
the decoder is idle (43_vram_copy R246, R247). -/
def State.uploadedTo (s : State) (j : Nat) (m : Memory) : State := { s with
  vram := m
  wr := s.wr.atPlace (if j < s.wr.w * s.wr.h then j else 0)
  dec := { s.dec with state := if j < s.wr.w * s.wr.h then .transfer else .idle } }

/-- The cells once the pixel `v` has been written at place `k` of the write rectangle (43_vram_copy R246). -/
def State.storePixel (s : State) (k : Nat) (v : Half) (g : Grid) : Grid :=
  g.storeMasked (rasterCell s.wr.x0 s.wr.y0 s.wr.w k).1 (rasterCell s.wr.x0 s.wr.y0 s.wr.w k).2 v s.bank.setMask
    s.bank.checkMask

theorem State.uploadedTo_place {s : State} (hwr : s.wr.wf) (ht : s.dec.state = .transfer) :
    s.uploadedTo s.wr.place s.vram = s := by
  rw [uploadedTo, if_pos (Cursor.place_lt hwr), if_pos (Cursor.place_lt hwr), Cursor.atPlace_place hwr, ← ht]

theorem State.uploadedTo_wr {s : State} {j : Nat} (h : j < s.wr.w * s.wr.h) (m : Memory) :
    (s.uploadedTo j m).wr = s.wr.atPlace j := congrArg s.wr.atPlace (if_pos h)

theorem State.uploadedTo_state {s : State} {j : Nat} (h : j < s.wr.w * s.wr.h) (m : Memory) :
    (s.uploadedTo j m).dec.state = .transfer := if_pos h

theorem State.uploadedTo_uploadedTo (s : State) (i j : Nat) (m m' : Memory) :
    (s.uploadedTo i m).uploadedTo j m' = s.uploadedTo j m' := rfl

/-- Past the last place it is all one how far. -/
theorem State.uploadedTo_of_le {s : State} {i j : Nat} (hi : s.wr.w * s.wr.h ≤ i) (hj : s.wr.w * s.wr.h ≤ j) (m : Memory) :
    s.uploadedTo i m = s.uploadedTo j m := by
  simp only [uploadedTo, if_neg (Nat.not_lt.2 hi), if_neg (Nat.not_lt.2 hj)]

theorem writePixel_uploadedTo (v : Half) {s : State} (hwr : s.wr.wf) (ht : s.dec.state = .transfer)
    (hm : s.vram.wf = true) :
    ∃ m : Memory, m.wf = true ∧ writePixel v s = s.uploadedTo (s.wr.place + 1) m
      ∧ m.grid = s.storePixel s.wr.place v s.vram.grid := by
  refine ⟨_, Memory.wf_fbWriteMasked hm _ _ _ _ _, ?_, Memory.grid_fbWriteMasked hm _ _ _ _ _⟩
  rw [writePixel_eq v hwr, ht]
  rfl

/-- A data word: its low half at the cursor, its high half at the next place unless the transfer is over
(43_vram_copy R245, R248). -/
theorem copyDataWord_uploadedTo (word : Word) {s : State} (hwr : s.wr.wf) (ht : s.dec.state = .transfer)
    (hm : s.vram.wf = true) :
    ∃ m : Memory, m.wf = true ∧ copyDataWord word s = s.uploadedTo (s.wr.place + 2) m
      ∧ m.grid = if s.wr.place + 1 < s.wr.w * s.wr.h then
          s.storePixel (s.wr.place + 1) (word.extractLsb' 16 16)
            (s.storePixel s.wr.place (word.extractLsb' 0 16) s.vram.grid)
        else s.storePixel s.wr.place (word.extractLsb' 0 16) s.vram.grid := by
  obtain ⟨m0, hm0, hlow, hg0⟩ := writePixel_uploadedTo (word.extractLsb' 0 16) hwr ht hm
  rw [copyDataWord, hlow]
  by_cases hnext : s.wr.place + 1 < s.wr.w * s.wr.h
  · have hcursor := State.uploadedTo_wr hnext m0
    obtain ⟨m1, hm1, hhigh, hg1⟩ := writePixel_uploadedTo (word.extractLsb' 16 16)
      (hcursor ▸ Cursor.wf_atPlace hwr hnext) (State.uploadedTo_state hnext m0) hm0
    rw [hcursor, Cursor.place_atPlace] at hhigh hg1
    refine ⟨m1, hm1, ?_, ?_⟩
    · rw [if_pos (State.uploadedTo_state hnext m0), hhigh, State.uploadedTo_uploadedTo]
    · rw [if_pos hnext, hg1, ← hg0]
      rfl
  · refine ⟨m0, hm0, ?_, hg0.trans (if_neg hnext).symm⟩
    rw [if_neg (by simp [State.uploadedTo, hnext])]
    exact State.uploadedTo_of_le (by omega) (by omega) m0

/-- Settles O39: by what a data word does; a byte of neither cell reads as before since its cell does. -/
theorem dataWordWritesTwoPixels : Obligations.DataWordWritesTwoPixels := by
  intro s word rest hinv hf ht hp n k c0 c1 g0 g1
  obtain ⟨m, hm, hword, hgrid⟩ := copyDataWord_uploadedTo word (s := s.setPending rest) (hinv.wr ht) ht hinv.vram
  have hgrid : m.grid = if k + 1 < n then g1 else g0 := hgrid
  have hcells (x : BitVec 10) (y : BitVec 9) : m.fbRead x y = if k + 1 < n then g1 x y else g0 x y := by
    refine (congrFun (congrFun hgrid x) y).trans ?_
    split <;> rfl
  refine ⟨m, hm, (step_data hp hf ht).trans (congrArg _ hword), hcells, fun a hlow hhigh hnext => ?_⟩
  refine Memory.readByte_eq_of_fbRead hm hinv.vram fun x y hxy => ?_
  have hfirst : g0 x y = s.vram.fbRead x y := Grid.storeMasked_of_ne (cell_ne_of_byte_ne hlow hhigh hxy)
  rw [hcells]
  split
  case isFalse => exact hfirst
  case isTrue hlt =>
    obtain ⟨hlow1, hhigh1⟩ := hnext hlt
    exact (Grid.storeMasked_of_ne (cell_ne_of_byte_ne hlow1 hhigh1 hxy)).trans hfirst

/-! ## The data words of an upload -/

/-- After `k` data words from the first place, the pixels written are the first `2 k` of the words, or all there are
places for. -/
theorem runSteps_dataWords {s : State} {ws : List Word} {rest : List Transaction} (hinv : s.Inv) (hf : s.fault = false)
    (ht : s.dec.state = .transfer) (h0 : s.wr.place = 0) (hp : s.pending = drawWrites ws ++ rest) :
    ∀ k, k ≤ ws.length → k ≤ (s.wr.w * s.wr.h + 1) / 2 → ∃ m : Memory,
      runSteps k s = .next ((s.uploadedTo (2 * k) m).setPending (drawWrites (ws.drop k) ++ rest))
      ∧ m.grid = s.vram.grid.storePlaces s.bank.setMask s.bank.checkMask (rasterCell s.wr.x0 s.wr.y0 s.wr.w)
          (fun _ => pixelOf ws) (List.range (min (2 * k) (s.wr.w * s.wr.h))) := by
  have hwr := hinv.wr ht
  intro k
  induction k with
  | zero =>
    have hstart := State.uploadedTo_place hwr ht
    rw [h0] at hstart
    refine fun _ _ => ⟨s.vram, ?_, by rw [Nat.mul_zero, Nat.zero_min]; rfl⟩
    rw [Nat.mul_zero, hstart, List.drop_zero, ← hp]
    rfl
  | succ k ih =>
    intro hlen hcount
    obtain ⟨m, hrun, hgrid⟩ := ih (by omega) (by omega)
    have hplace : 2 * k < s.wr.w * s.wr.h := by omega
    have hinv' := hinv.runSteps hrun
    have hstate : (s.uploadedTo (2 * k) m).dec.state = .transfer := State.uploadedTo_state hplace m
    have hcursor := State.uploadedTo_wr hplace m
    rw [List.drop_eq_getElem_cons hlen] at hrun
    obtain ⟨m', -, hword, hgrid'⟩ := copyDataWord_uploadedTo ws[k]
      (s := (s.uploadedTo (2 * k) m).setPending (drawWrites (ws.drop (k + 1)) ++ rest)) (hinv'.wr hstate) hstate hinv'.vram
    rw [State.setPending_wr, hcursor, Cursor.place_atPlace] at hword hgrid'
    rw [Cursor.atPlace_w, Cursor.atPlace_h] at hgrid'
    refine ⟨m', ?_, ?_⟩
    · rw [runSteps_add hrun 1, runSteps_one]
      exact (step_data (s := (s.uploadedTo (2 * k) m).setPending _) rfl hf hstate).trans (congrArg _ hword)
    · rw [hgrid']
      rw [Nat.min_eq_left hplace.le] at hgrid
      split
      case isTrue hnext =>
        rw [show min (2 * (k + 1)) (s.wr.w * s.wr.h) = 2 * k + 1 + 1 by omega, Grid.storePlaces_range_succ,
          Grid.storePlaces_range_succ, ← hgrid, pixelOf_low hlen, pixelOf_high hlen]
        rfl
      case isFalse hlast =>
        rw [show min (2 * (k + 1)) (s.wr.w * s.wr.h) = 2 * k + 1 by omega, Grid.storePlaces_range_succ, ← hgrid,
          pixelOf_low hlen]
        rfl

/-- Two pixels a word: the pixels run out with the word that rounds half their number up (43_vram_copy R259). -/
theorem ite_two_mul_lt {α : Type} {k n : Nat} (hk : k ≤ (n + 1) / 2) (a b : α) :
    (if 2 * k < n then a else b) = if k = (n + 1) / 2 then b else a := by
  by_cases hlt : 2 * k < n
  · rw [if_pos hlt, if_neg (by omega)]
  · rw [if_neg hlt, if_pos (by omega)]

theorem State.uploadedTo_two_mul_state {s : State} {k : Nat} (m : Memory) (hk : k ≤ (s.wr.w * s.wr.h + 1) / 2) :
    (s.uploadedTo (2 * k) m).dec.state = if k = (s.wr.w * s.wr.h + 1) / 2 then .idle else .transfer :=
  ite_two_mul_lt hk DecState.transfer DecState.idle

end Sys2Proof.Machine
end

section
/-! SUPPORT. The reads of a read-back, one and many, and whole transfers (43_vram_copy R249 to R251, R259, R260;
45_bus_reads R323). -/

namespace Sys2Proof.Machine

/-! ## One read of a read-back -/

/-- The state once the read cursor has come to place `j` of its rectangle, the reads having returned `rs` and last
latched `l`; past the last place the transfer is over (45_bus_reads R323, 43_vram_copy R251). -/
def State.readTo (s : State) (j : Nat) (l : Word) (rs : List Word) : State := { s with
  rd := s.rd.atPlace (if j < s.rd.w * s.rd.h then j else 0)
  readMode := if j < s.rd.w * s.rd.h then .vramTransfer else .normal
  readLatch := l
  results := s.results ++ rs.map BusResult.data }

/-- The cell at place `k` of the read rectangle (43_vram_copy R250). -/
def State.loadPixel (s : State) (k : Nat) : Half :=
  s.vram.fbRead (rasterCell s.rd.x0 s.rd.y0 s.rd.w k).1 (rasterCell s.rd.x0 s.rd.y0 s.rd.w k).2

theorem State.readTo_rd {s : State} {j : Nat} (h : j < s.rd.w * s.rd.h) (l : Word) (rs : List Word) :
    (s.readTo j l rs).rd = s.rd.atPlace j := congrArg s.rd.atPlace (if_pos h)

theorem State.readTo_readMode {s : State} {j : Nat} (h : j < s.rd.w * s.rd.h) (l : Word) (rs : List Word) :
    (s.readTo j l rs).readMode = .vramTransfer := if_pos h

theorem State.readTo_readTo (s : State) (i j : Nat) (l l' : Word) (rs rs' : List Word) :
    (s.readTo i l rs).readTo j l' rs' = s.readTo j l' (rs ++ rs') := by
  simp only [readTo, List.map_append, List.append_assoc]
  rfl

theorem State.readTo_answer (s : State) (j : Nat) (l w : Word) :
    ((s.readTo j l []).setReadLatch w).answer (.data w) = s.readTo j w [w] := by
  simp only [readTo, List.map_nil, List.append_nil]
  rfl

/-- Past the last place it is all one how far. -/
theorem State.readTo_of_le {s : State} {i j : Nat} (hi : s.rd.w * s.rd.h ≤ i) (hj : s.rd.w * s.rd.h ≤ j) (l : Word)
    (rs : List Word) : s.readTo i l rs = s.readTo j l rs := by
  simp only [readTo, if_neg (Nat.not_lt.2 hi), if_neg (Nat.not_lt.2 hj)]

theorem State.readTo_place {s : State} (hrd : s.rd.wf) (ht : s.readMode = .vramTransfer) :
    s.readTo s.rd.place s.readLatch [] = s := by
  rw [readTo, if_pos (Cursor.place_lt hrd), if_pos (Cursor.place_lt hrd), Cursor.atPlace_place hrd, ← ht, List.map_nil,
    List.append_nil]

theorem readPixel_readTo {s : State} (hrd : s.rd.wf) (ht : s.readMode = .vramTransfer) :
    readPixel s = (s.loadPixel s.rd.place, s.readTo (s.rd.place + 1) s.readLatch []) := by
  rw [readPixel_eq hrd, ht, State.readTo, List.map_nil, List.append_nil]
  rfl

theorem exec_readData {s : State} (hf : s.fault = false) :
    exec .readData s = .next ((readDataPort s).2.answer (.data (readDataPort s).1)) := State.commit_live hf

/-- A data-port read in a transfer: the cell at the cursor below, the next one above or `READ_PAD` when there is none
(45_bus_reads R323). -/
theorem exec_readData_transfer {s : State} (hf : s.fault = false) (hrd : s.rd.wf) (ht : s.readMode = .vramTransfer) :
    ∃ word : Word, exec .readData s = .next (s.readTo (s.rd.place + 2) word [word])
      ∧ word = (if s.rd.place + 1 < s.rd.w * s.rd.h then s.loadPixel (s.rd.place + 1) else s.cfg.readPad)
        ++ s.loadPixel s.rd.place := by
  refine ⟨_, ?_, rfl⟩
  have hport : readDataPort s = transferRead s := by simp only [readDataPort, ht]
  rw [exec_readData hf, hport, transferRead, readPixel_readTo hrd ht]
  by_cases hnext : s.rd.place + 1 < s.rd.w * s.rd.h
  · have hcursor := State.readTo_rd hnext s.readLatch []
    have hmode := State.readTo_readMode hnext s.readLatch []
    have hhigh := readPixel_readTo (hcursor ▸ Cursor.wf_atPlace hrd hnext) hmode
    rw [hcursor, Cursor.place_atPlace, State.readTo_readTo] at hhigh
    simp only [hmode, hhigh, if_true, hnext]
    exact congrArg _ (State.readTo_answer ..)
  · have hmode : (s.readTo (s.rd.place + 1) s.readLatch []).readMode ≠ .vramTransfer := by
      simp [State.readTo, hnext]
    simp only [hmode, if_false, hnext]
    rw [State.readTo_of_le (j := s.rd.place + 2) (by omega) (by omega)]
    exact congrArg _ (State.readTo_answer ..)

/-! ## The reads of a read-back -/

/-- Half-words of a list of words with one more. -/
theorem pixelOf_concat_low (ws : List Word) (w : Word) : pixelOf (ws ++ [w]) (2 * ws.length) = w.extractLsb' 0 16 := by
  rw [pixelOf_low (by simp), List.getElem_concat_length rfl]

theorem pixelOf_concat_high (ws : List Word) (w : Word) :
    pixelOf (ws ++ [w]) (2 * ws.length + 1) = w.extractLsb' 16 16 := by
  rw [pixelOf_high (by simp), List.getElem_concat_length rfl]

/-- After `k` reads from the first place, the half-words returned are the cells at the first `2 k` places, as many as
there are (43_vram_copy R250). -/
theorem runInstrs_reads {s : State} (hf : s.fault = false) (hrd : s.rd.wf) (ht : s.readMode = .vramTransfer)
    (h0 : s.rd.place = 0) :
    ∀ k, k ≤ (s.rd.w * s.rd.h + 1) / 2 → ∃ (l : Word) (rs : List Word), rs.length = k
      ∧ runInstrs (List.replicate k .readData) s = .next (s.readTo (2 * k) l rs)
      ∧ ∀ i, i < 2 * k → i < s.rd.w * s.rd.h → pixelOf rs i = s.loadPixel i := by
  intro k
  induction k with
  | zero =>
    have hstart := State.readTo_place hrd ht
    rw [h0] at hstart
    exact fun _ => ⟨s.readLatch, [], rfl, congrArg _ hstart.symm, fun i hi => absurd hi (by omega)⟩
  | succ k ih =>
    intro hcount
    obtain ⟨l, rs, rfl, hrun, hcells⟩ := ih (by omega)
    have hplace : 2 * rs.length < s.rd.w * s.rd.h := by omega
    have hcursor := State.readTo_rd hplace l rs
    obtain ⟨word, hread, hword⟩ := exec_readData_transfer (s := s.readTo (2 * rs.length) l rs) hf
      (hcursor ▸ Cursor.wf_atPlace hrd hplace) (State.readTo_readMode hplace l rs)
    rw [hcursor, Cursor.place_atPlace] at hread hword
    rw [State.readTo_readTo] at hread
    refine ⟨word, rs ++ [word], by simp, ?_, fun i hi hin => ?_⟩
    · rw [List.replicate_succ', runInstrs_append hrun, runInstrs_singleton]
      exact hread
    · have hplaces : i < 2 * rs.length ∨ i = 2 * rs.length ∨ i = 2 * rs.length + 1 := by omega
      rcases hplaces with hlt | rfl | rfl
      · rw [pixelOf_append hlt, hcells i hlt hin]
      · rw [pixelOf_concat_low, hword, BitVec.extractLsb'_append_eq_right]
        rfl
      · rw [pixelOf_concat_high, hword, BitVec.extractLsb'_append_eq_left]
        exact if_pos hin

/-- Settles O40: by what the words and the reads of a transfer do; a rectangle holds 1 to 524288 cells. -/
theorem transferWordCounts : Obligations.TransferWordCounts := by
  refine ⟨fun s ws rest hinv hf ht h0 hp hlen => ?_, fun s k hinv hf ht h0 hk => ?_⟩
  · obtain ⟨hw1, hw, hh1, hh, -, -⟩ := hinv.wr ht
    have hmin := Nat.mul_le_mul hw1 hh1
    have hmax := Nat.mul_le_mul hw hh
    obtain ⟨m, hrun, -⟩ := runSteps_dataWords hinv hf ht h0 hp ws.length le_rfl hlen
    rw [List.drop_length] at hrun
    exact ⟨by omega, by omega, _, hrun, rfl, State.uploadedTo_two_mul_state m hlen⟩
  · obtain ⟨l, rs, -, hrun, -⟩ := runInstrs_reads hf (hinv.rd ht) ht h0 k hk
    exact ⟨_, hrun, ite_two_mul_lt hk ReadMode.vramTransfer ReadMode.normal⟩

/-! ## Reads among the pending transactions -/

theorem readPixel_setPending (s : State) (ts : List Transaction) :
    readPixel (s.setPending ts) = ((readPixel s).1, (readPixel s).2.setPending ts) := by
  rcases h : s.rd.advance with ⟨c, last⟩
  cases last <;> (simp only [readPixel, State.setPending_rd, h]; rfl)

theorem readDataPort_setPending (s : State) (ts : List Transaction) :
    readDataPort (s.setPending ts) = ((readDataPort s).1, (readDataPort s).2.setPending ts) := by
  cases h : s.readMode with
  | normal => simp only [readDataPort, State.setPending_readMode, h]; rfl
  | infoQuery => simp only [readDataPort, State.setPending_readMode, h]; rfl
  | vramTransfer =>
    simp only [readDataPort, State.setPending_readMode, h, transferRead, readPixel_setPending]
    split <;> rfl

/-- What is pending makes no difference to a data-port read. -/
theorem exec_readData_setPending {s t : State} (hf : s.fault = false) (h : exec .readData s = .next t)
    (ts : List Transaction) : exec .readData (s.setPending ts) = .next (t.setPending ts) := by
  rw [exec_readData hf] at h
  cases h
  rw [exec_readData (s := s.setPending ts) hf, readDataPort_setPending]
  rfl

/-- Pending reads run as so many read instructions. -/
theorem runSteps_reads {k : Nat} {s t : State} (hrun : runInstrs (List.replicate k .readData) s = .next t)
    (hf : s.fault = false) (rest : List Transaction) :
    runSteps k (s.setPending (List.replicate k (.read 0 .word) ++ rest)) = .next (t.setPending rest) := by
  induction k generalizing s with
  | zero =>
    cases hrun
    rfl
  | succ k ih =>
    obtain ⟨w, c, m, l, hframe⟩ := readDataPort_frame s
    have hexec := exec_readData hf
    rw [hframe] at hexec
    rw [List.replicate_succ, runInstrs, hexec] at hrun
    have hstep := (step_readData (s := s.setPending (List.replicate (k + 1) (.read 0 .word) ++ rest)) rfl hf).trans
      (exec_readData_setPending hf hexec (List.replicate k (.read 0 .word) ++ rest))
    rw [runSteps_of_step hstep]
    exact ih hrun hf

/-! ## The round trip -/

/-- The three words of an upload's header arm the transfer (43_vram_copy R244). -/
theorem runSteps_copyCpuVram {s : State} {pos size : PairWord} {rest : List Transaction} (hf : s.fault = false)
    (hi : s.dec.state = .idle) (hp : s.pending = encode (.copyCpuVram 0#24 pos size) ++ rest) :
    ∃ d : Decoder, d.IsCleared .transfer
      ∧ runSteps 3 s = .next { s with pending := rest, dec := d, wr := transferOf pos size } := by
  obtain ⟨d, -, hrun⟩ := instructionStreamRuns (.copyCpuVram 0#24 pos size) s rest rfl hf hi hp nofun
  refine ⟨_, Decoder.isCleared_cleared d .transfer, ?_⟩
  rw [show runSteps 3 s = _ from hrun, exec_copyCpuVram _ _ _ (s := { s with pending := rest, dec := d }) hf]
  simp

/-- The three words of a read-back's header arm the transfer (43_vram_copy R249). -/
theorem runSteps_copyVramCpu {s : State} {pos size : PairWord} {rest : List Transaction} (hf : s.fault = false)
    (hi : s.dec.state = .idle) (hp : s.pending = encode (.copyVramCpu 0#24 pos size) ++ rest) :
    ∃ d : Decoder, d.IsCleared .idle
      ∧ runSteps 3 s = .next
        { s with pending := rest, dec := d, readMode := .vramTransfer, rd := transferOf pos size } := by
  obtain ⟨d, -, hrun⟩ := instructionStreamRuns (.copyVramCpu 0#24 pos size) s rest rfl hf hi hp nofun
  refine ⟨_, Decoder.isCleared_cleared d .idle, ?_⟩
  rw [show runSteps 3 s = _ from hrun, exec_copyVramCpu _ _ _ (s := { s with pending := rest, dec := d }) hf]
  simp

/-- A whole upload: the header's three words and the data words. -/
theorem runSteps_upload {s : State} {pos size : PairWord} {ws : List Word} {rest : List Transaction} (hinv : s.Inv)
    (hf : s.fault = false) (hi : s.dec.state = .idle) (hlen : ws.length = (normW size.lo * normH size.hi + 1) / 2)
    (hp : s.pending = encode (.copyCpuVram 0#24 pos size) ++ (drawWrites ws ++ rest)) :
    ∃ u, runSteps (3 + ws.length) s = .next u
      ∧ u.fault = false ∧ u.dec.state = .idle ∧ u.results = s.results ∧ u.pending = rest
      ∧ u.vram.grid = s.vram.grid.storePlaces s.bank.setMask s.bank.checkMask
          (rasterCell (normX pos.lo) (normY pos.hi) (normW size.lo)) (fun _ => pixelOf ws)
          (List.range (normW size.lo * normH size.hi)) := by
  obtain ⟨d, hd, hheader⟩ := runSteps_copyCpuVram hf hi hp
  obtain ⟨m, hwords, hgrid⟩ := runSteps_dataWords (hinv.runSteps hheader) hf hd.state (transferOf_place pos size) rfl
    ws.length le_rfl hlen.le
  rw [List.drop_length] at hwords
  have hall : min (2 * ws.length) ((transferOf pos size).w * (transferOf pos size).h) = normW size.lo * normH size.hi :=
    Nat.min_eq_right (by simp only [transferOf]; omega)
  simp only [hall] at hgrid
  exact ⟨_, (runSteps_add hheader ws.length).trans hwords, hf,
    (State.uploadedTo_two_mul_state m hlen.le).trans (if_pos hlen), rfl, rfl, hgrid⟩

/-- A whole read-back: the header's three words and the reads. -/
theorem runSteps_readback {s : State} {pos size : PairWord} {k : Nat} {rest : List Transaction} (hf : s.fault = false)
    (hi : s.dec.state = .idle) (hk : k = (normW size.lo * normH size.hi + 1) / 2)
    (hp : s.pending = encode (.copyVramCpu 0#24 pos size) ++ (List.replicate k (.read 0 .word) ++ rest)) :
    ∃ (t : State) (rs : List Word), runSteps (3 + k) s = .next t
      ∧ rs.length = k ∧ t.results = s.results ++ rs.map BusResult.data
      ∧ t.pending = rest ∧ t.dec.state = .idle ∧ t.readMode = .normal
      ∧ ∀ i, i < normW size.lo * normH size.hi → pixelOf rs i =
          s.vram.grid (rasterCell (normX pos.lo) (normY pos.hi) (normW size.lo) i).1
            (rasterCell (normX pos.lo) (normY pos.hi) (normW size.lo) i).2 := by
  obtain ⟨d, hd, hheader⟩ := runSteps_copyVramCpu hf hi hp
  obtain ⟨l, rs, hlen, hreads, hcells⟩ := runInstrs_reads hf (transferOf_wf pos size) rfl (transferOf_place pos size) k hk.le
    (s := { s with pending := rest, dec := d, readMode := .vramTransfer, rd := transferOf pos size })
  have hrun := (runSteps_add hheader k).trans (runSteps_reads hreads hf rest)
  exact ⟨_, rs, hrun, hlen, rfl, rfl, hd.state, if_neg (by simp only [transferOf]; omega),
    fun i hin => hcells i (by omega) hin⟩

/-- Settles O41: the cells of the rectangle are distinct, so each still holds its pixel when it is read back. -/
theorem uploadThenReadbackReturnsPixels : Obligations.UploadThenReadbackReturnsPixels := by
  intro s pos size ws rest hinv hf hi n hlen hfree hp
  have hn : normW size.lo * normH size.hi = n := by rw [normW_eq, normH_eq]
  rw [← hn] at hlen
  simp only [List.append_assoc] at hp
  obtain ⟨u, hupload, huf, hui, hures, hup, hgrid⟩ := runSteps_upload hinv hf hi hlen hp
  obtain ⟨t, rs, hreadback, hrs, hres, htp, hti, htm, hcells⟩ := runSteps_readback huf hui hlen hup
  have hrun := (runSteps_add hupload (3 + ws.length)).trans hreadback
  refine ⟨t, rs, by rwa [← Nat.add_assoc] at hrun, hures ▸ hres, hrs, fun k hk => ?_, htp, hti, htm⟩
  have hkept : ∀ x y, ¬ (s.bank.checkMask = true ∧ (s.vram.grid x y).getLsbD 15 = true) := by
    rintro x y ⟨hcheck, hmask⟩
    rcases hfree with hoff | hclear
    · simp [hoff] at hcheck
    · exact absurd (hmask.symm.trans (hclear x y)) nofun
  have hk : k < normW size.lo * normH size.hi := hn ▸ hk
  calc
    pixelOf rs k = _ := hcells k hk
    _ = _ := congrFun (congrFun hgrid _) _
    _ = maskedValue (pixelOf ws k) s.bank.setMask := Grid.storePlaces_apply
      (rasterCell_pairwise _ _ (normW_bounds size.lo).2 (normH_bounds size.hi).2)
      (fun _ _ => hkept _ _) (fun _ _ _ _ => rfl) (List.mem_range.2 hk)

end Sys2Proof.Machine
end

section
/-! SUPPORT. The control port (44_control_port R281 to R304): its words with their ignored bits free, what each command
leaves in the state, and what no control word touches. -/

namespace Sys2Proof

/-! ## The word of a control command, its top bits and its argument free -/

theorem decodeGp1_reset (top : BitVec 2) (arg : BitVec 24) : decodeGp1 (top ++ (0x00#6 ++ arg)) = .reset := by
  rw [decodeGp1, op1Of_append]
  rfl

theorem decodeGp1_ackIrq (top : BitVec 2) (arg : BitVec 24) : decodeGp1 (top ++ (0x02#6 ++ arg)) = .ackIrq := by
  rw [decodeGp1, op1Of_append]
  rfl

theorem decodeGp1_displayEnable (top : BitVec 2) (arg : BitVec 24) :
    decodeGp1 (top ++ (0x03#6 ++ arg)) = .displayEnable (arg.getLsbD 0) := by
  rw [decodeGp1, op1Of_append, getLsbD_controlWord _ _ _ 0 (by decide)]
  rfl

theorem decodeGp1_dmaDirection (top : BitVec 2) (arg : BitVec 24) :
    decodeGp1 (top ++ (0x04#6 ++ arg)) = .dmaDirection (arg.extractLsb' 0 2) := by
  rw [decodeGp1, op1Of_append, extract_controlWord _ _ _ 0 2 (by decide)]
  rfl

theorem decodeGp1_displayStart (top : BitVec 2) (arg : BitVec 24) :
    decodeGp1 (top ++ (0x05#6 ++ arg)) = .displayStart (arg.extractLsb' 0 10) (arg.extractLsb' 10 9) := by
  rw [decodeGp1, op1Of_append, extract_controlWord _ _ _ 0 10 (by decide), extract_controlWord _ _ _ 10 9 (by decide)]
  rfl

theorem decodeGp1_hRange (top : BitVec 2) (arg : BitVec 24) :
    decodeGp1 (top ++ (0x06#6 ++ arg)) = .hRange (arg.extractLsb' 0 12) (arg.extractLsb' 12 12) := by
  rw [decodeGp1, op1Of_append, extract_controlWord _ _ _ 0 12 (by decide), extract_controlWord _ _ _ 12 12 (by decide)]
  rfl

theorem decodeGp1_vRange (top : BitVec 2) (arg : BitVec 24) :
    decodeGp1 (top ++ (0x07#6 ++ arg)) = .vRange (arg.extractLsb' 0 10) (arg.extractLsb' 10 10) := by
  rw [decodeGp1, op1Of_append, extract_controlWord _ _ _ 0 10 (by decide), extract_controlWord _ _ _ 10 10 (by decide)]
  rfl

theorem decodeGp1_displayMode (top : BitVec 2) (arg : BitVec 24) :
    decodeGp1 (top ++ (0x08#6 ++ arg)) = .displayMode arg := by
  rw [decodeGp1, op1Of_append, extract_controlWord _ _ _ 0 24 (by decide), BitVec.extractLsb'_eq_self]
  rfl

theorem decodeGp1_texDisableAllow (top : BitVec 2) (arg : BitVec 24) :
    decodeGp1 (top ++ (0x09#6 ++ arg)) = .texDisableAllow (arg.getLsbD 0) := by
  rw [decodeGp1, op1Of_append, getLsbD_controlWord _ _ _ 0 (by decide)]
  rfl

/-! ## Unrecognized words -/

/-- The unrecognized control opcodes (30_encoding R119). -/
abbrev IsUnrecognizedOpcode (op1 : BitVec 6) : Prop := (0x0A ≤ op1.toNat ∧ op1.toNat ≤ 0x0F) ∨ 0x20 ≤ op1.toNat

/-- A word with an unrecognized opcode is of one of the seven unrecognized rows, which carries it whole. -/
theorem decodeGp1_unrecognized {w : Word} (h : IsUnrecognizedOpcode (op1Of w)) :
    (decodeGp1 w).isUnrecognized = true ∧ encode (decodeGp1 w) = [.write 4 .word w] := by
  rcases h with ⟨hlow, hhigh⟩ | hupper
  · have hrow : (op1Of w).toNat = 0x0A ∨ (op1Of w).toNat = 0x0B ∨ (op1Of w).toNat = 0x0C ∨ (op1Of w).toNat = 0x0D
        ∨ (op1Of w).toNat = 0x0E ∨ (op1Of w).toNat = 0x0F := by omega
    rcases hrow with hop | hop | hop | hop | hop | hop
    all_goals
      rw [decodeGp1, hop]
      exact ⟨rfl, rfl⟩
  · have hbit : ∀ op1 : BitVec 6, 0x20 ≤ op1.toNat → op1.getLsbD 5 = true := by decide
    rw [decodeGp1_high (hbit _ hupper)]
    exact ⟨rfl, rfl⟩

/-! ## The layouts of the information words -/

/-- Zeros above a field extend it. -/
theorem zero_append_eq_setWidth (k : Nat) {n : Nat} (x : BitVec n) : 0#k ++ x = x.setWidth (k + n) := by
  simp [BitVec.setWidth_eq_append]

/-- Two fields below zeros, as the rules write them: the upper one shifted, or the lower one (44_control_port R293). -/
theorem zero_append_pair (k : Nat) {m n : Nat} (hi : BitVec m) (lo : BitVec n) :
    0#k ++ (hi ++ lo) = (hi.setWidth (k + (m + n)) <<< n) ||| lo.setWidth (k + (m + n)) := by
  rw [zero_append_eq_setWidth, BitVec.setWidth_append_eq_shiftLeft_setWidth_or]

/-- An opcode put above a latched word that leaves its byte free makes the command word. -/
theorem opcode_or_setWidth (op : Opcode) {n : Nat} (x : BitVec n) (h : n ≤ 24) :
    (op ++ 0#24) ||| x.setWidth 32 = commandWord op (x.setWidth 24) := by
  have hlow : x.setWidth 32 = 0#8 ++ x.setWidth 24 := by
    rw [zero_append_eq_setWidth 8, BitVec.setWidth_setWidth (by omega)]
  rw [hlow, BitVec.or_append, BitVec.or_zero, BitVec.zero_or, commandWord]

/-- A latched clip corner under an opcode is the command of that opcode with its fields (44_control_port R293, R294,
30_encoding R110). -/
theorem decode_clipLayout (op : Opcode) (x y : BitVec 10) :
    decode (Machine.drawWrites [(op ++ 0#24) ||| (0#12 ++ (y ++ x))])
      = decode (drawCommand op (0#4 ++ (y ++ x)) []) := by
  rw [zero_append_eq_setWidth 12, zero_append_eq_setWidth 4, opcode_or_setWidth op (y ++ x) (by decide)]
  rfl

/-- A latched offset under an opcode is the command of that opcode with its fields (44_control_port R295,
30_encoding R111). -/
theorem decode_offsetLayout (op : Opcode) (x y : BitVec 11) :
    decode (Machine.drawWrites [(op ++ 0#24) ||| (0#10 ++ (y ++ x))])
      = decode (drawCommand op (0#2 ++ (y ++ x)) []) := by
  rw [zero_append_eq_setWidth 10, zero_append_eq_setWidth 2, opcode_or_setWidth op (y ++ x) (by decide)]
  rfl

end Sys2Proof

namespace Sys2Proof.Machine

/-! ## The two resets -/

/-- Settles O4: the word decodes to `RESET` in any state, and `RESET` commits its one state. -/
theorem controlResetClearsRegisters : Obligations.ControlResetClearsRegisters := by
  intro s hf
  constructor
  · intro top arg rest hp
    rw [step_control hp hf, decodeGp1_reset]
    rfl
  · exact ⟨_, Decoder.isCleared_cleared s.dec .idle, State.commit_live hf⟩

theorem exec_resetCmdbuf_clear (word : Word) {s : State} (h : s.cfg.commandBufferReset = .clear) :
    exec (.resetCmdbuf word) s = s.commit s.clearCommand := by
  show execResetCmdbuf word s = _
  rw [execResetCmdbuf, h]

theorem exec_resetCmdbuf_noop (word : Word) {s : State} (h : s.cfg.commandBufferReset = .noop) :
    exec (.resetCmdbuf word) s = s.commit s := by
  show execResetCmdbuf word s = _
  rw [execResetCmdbuf, h]

theorem exec_resetCmdbuf_fatal (word : Word) {s : State} (h : s.cfg.commandBufferReset = .fatal) :
    exec (.resetCmdbuf word) s = s.commit (s.raiseFatal word) := by
  show execResetCmdbuf word s = _
  rw [execResetCmdbuf, h]

/-- Settles O5: one committed state for each value of the parameter. -/
theorem commandBufferResetBehaviours : Obligations.CommandBufferResetBehaviours := by
  intro word s hf
  refine ⟨fun hclear => ?_, fun hnoop => ?_, fun hfatal => ?_⟩
  · exact ⟨_, Decoder.isCleared_cleared s.dec .idle,
      (exec_resetCmdbuf_clear word hclear).trans (State.commit_live hf)⟩
  · exact (exec_resetCmdbuf_noop word hnoop).trans (State.commit_live hf)
  · exact ⟨[.fatal word], (exec_resetCmdbuf_fatal word hfatal).trans (State.commit_live hf)⟩

/-! ## Commands that write registers -/

/-- Settles O46: a control word is decoded whatever its top bits and the decoder's state, and its command commits the
bank with the fields stored. -/
theorem controlWordsWriteRegisters : Obligations.ControlWordsWriteRegisters := by
  intro s top arg rest hf
  have hf' : (s.setPending rest).fault = false := hf
  refine ⟨fun hp => ?_, fun hp => ?_, fun hp => ?_, fun hp => ?_, fun hp => ?_, fun hp => ?_, fun hp => ?_,
    fun hp => ?_⟩
  all_goals rw [step_control hp hf]
  · rw [decodeGp1_ackIrq]
    exact commit_setBank hf' _
  · rw [decodeGp1_displayEnable]
    exact commit_setBank hf' _
  · rw [decodeGp1_dmaDirection]
    exact commit_setBank hf' _
  · rw [decodeGp1_displayStart]
    exact commit_setBank hf' _
  · rw [decodeGp1_hRange]
    exact commit_setBank hf' _
  · rw [decodeGp1_vRange]
    exact commit_setBank hf' _
  · rw [decodeGp1_displayMode]
    exact commit_setBank hf' _
  · rw [decodeGp1_texDisableAllow]
    exact commit_setBank hf' _

/-! ## Unrecognized commands -/

/-- The seven unrecognized rows have one meaning, given the word that encodes them (44_control_port R299). -/
theorem exec_of_isUnrecognized {i : Instr} {w : Word} (hu : i.isUnrecognized = true)
    (he : encode i = [.write 4 .word w]) (s : State) : exec i s = s.commit (s.raiseFatal w) := by
  cases i
  case gp1Unrecognized0A | gp1Unrecognized0B | gp1Unrecognized0C | gp1Unrecognized0D | gp1Unrecognized0E
      | gp1Unrecognized0F | gp1Unrecognized20_3F =>
    cases he
    rfl
  all_goals cases hu

/-- Settles O47: the one meaning of the rows, while `fault` is 0. -/
theorem unrecognizedCommandsRaiseFatal : Obligations.UnrecognizedCommandsRaiseFatal := fun _ _ s hu he hf =>
  (exec_of_isUnrecognized hu he s).trans (State.commit_live hf)

/-- After a fatal condition no instruction runs (60_exceptions R362). -/
theorem exec_faulted (i : Instr) {s : State} (hf : s.fault = true) : exec i s = .refused .afterFatal := by
  obtain ⟨t, ht⟩ := exec_commits i s
  exact ht.trans (State.commit_faulted hf)

/-- Settles O18: an unrecognized word runs a row that raises it; with `fault` set, the port and `exec` refuse. -/
theorem fatalIsSticky : Obligations.FatalIsSticky := by
  refine ⟨fun s w rest hf hp hop => ?_, fun s t rest hf hp => step_fault hp hf, fun i s hf => exec_faulted i hf⟩
  obtain ⟨hu, he⟩ := decodeGp1_unrecognized hop
  rw [step_control hp hf]
  exact ⟨[.fatal w], unrecognizedCommandsRaiseFatal _ w _ hu he hf⟩

/-! ## Information queries -/

theorem latchInfo_live (w : Word) {s : State} (hf : s.fault = false) :
    latchInfo w s = .next { s with readMode := .infoQuery, readLatch := w } := State.commit_live hf

/-- The ten indices without a register have one meaning (44_control_port R298). -/
theorem exec_of_isEmptyQuery {i : Instr} (h : i.isEmptyQuery = true) (s : State) : exec i s = latchNothing s := by
  cases i
  case getInfoNone0 | getInfoNone1 | getInfoNone6 | getInfoNone9 | getInfoNoneA | getInfoNoneB | getInfoNoneC
      | getInfoNoneD | getInfoNoneE | getInfoNoneF => rfl
  all_goals cases h

/-- Settles O48: the model lays the fields side by side below zeros, the rules shift and or them. -/
theorem infoQueriesLatch : Obligations.InfoQueriesLatch := by
  intro s hf
  refine ⟨?_, ?_, ?_, ?_, latchInfo_live _ hf, latchInfo_live _ hf, fun i hi => ?_⟩
  · exact zero_append_eq_setWidth 8 s.bank.texWindow ▸ latchInfo_live _ hf
  · exact zero_append_pair 12 s.bank.clipTop s.bank.clipLeft ▸ latchInfo_live _ hf
  · exact zero_append_pair 12 s.bank.clipBottom s.bank.clipRight ▸ latchInfo_live _ hf
  · exact zero_append_pair 10 s.bank.offY s.bank.offX ▸ latchInfo_live _ hf
  · exact (exec_of_isEmptyQuery hi s).trans (State.commit_live hf)

/-- Settles O49: under the opcode, the latched layout is the word that encodes the setting command. -/
theorem infoWordsRestoreRegisters : Obligations.InfoWordsRestoreRegisters := by
  intro s hf
  refine ⟨⟨_, latchInfo_live _ hf, ?_⟩, ⟨_, latchInfo_live _ hf, ?_⟩, ⟨_, latchInfo_live _ hf, ?_⟩⟩
  · exact (decode_clipLayout 0xE3#8 _ _).trans (decode_encode_setClipTl s.bank.clipLeft s.bank.clipTop)
  · exact (decode_clipLayout 0xE4#8 _ _).trans (decode_encode_setClipBr s.bank.clipRight s.bank.clipBottom)
  · exact (decode_offsetLayout 0xE5#8 _ _).trans (decode_encode_setOffset s.bank.offX s.bank.offY)

/-! ## What the control port leaves alone -/

/-- A completed step on a control word ran it, `fault` being 0. -/
theorem step_control_next {s t : State} {w : Word} {rest : List Transaction} (hp : s.pending = .write 4 .word w :: rest)
    (h : step s = .next t) : exec (decodeGp1 w) (s.setPending rest) = .next t := by
  cases hf : s.fault with
  | false => rwa [step_control hp hf] at h
  | true => simp [step_fault hp hf] at h

/-- Settles O58: the frame of a control command; its decoder clause names opcodes 0 and 1. -/
theorem controlPortLeavesTheRest : Obligations.ControlPortLeavesTheRest := by
  intro s t w rest hp h
  obtain ⟨⟨hvram, hemissions, htiming, hresults, -⟩, hdec, -, -⟩ := control_next (step_control_next hp h)
  refine ⟨hvram, hemissions, htiming, hresults, fun hop => ?_⟩
  have hop : 2 ≤ (op1Of w).toNat := hop
  rcases hdec with hkept | ⟨hreset, -⟩ | ⟨hcmdbuf, -⟩
  · exact hkept
  · simp [hreset] at hop
  · simp [hcmdbuf] at hop

end Sys2Proof.Machine
end

section
/-! SUPPORT. The two bus reads: what the data port returns in each read mode, and the fields of the status word
(45_bus_reads). -/

namespace Sys2Proof.Machine

/-! ## The data port -/

/-- Outside a transfer the data port shows the latch (45_bus_reads R321, R322). -/
theorem readDataPort_of_ne_transfer {s : State} (hm : s.readMode ≠ .vramTransfer) :
    readDataPort s = (s.readLatch, s) := by
  cases h : s.readMode with
  | normal => simp only [readDataPort, h]
  | infoQuery => simp only [readDataPort, h]
  | vramTransfer => exact absurd h hm

/-- Settles O43: the model advances the cursor twice, which in raster order is two places on or past the end; the
invariant puts the cursor inside its rectangle. -/
theorem transferReadReturnsTwoCells : Obligations.TransferReadReturnsTwoCells := by
  intro s hinv hf ht
  obtain ⟨word, hread, rfl⟩ := exec_readData_transfer hf (hinv.rd ht) ht
  exact hread

/-- Settles O42: the read commits the state the data port leaves, which is the one it found. -/
theorem latchedReadsReturnLatch : Obligations.LatchedReadsReturnLatch := by
  intro s hf hm
  rw [exec_readData hf, readDataPort_of_ne_transfer hm]
  rfl

/-! ## The status port -/

/-- Settles O44: the status read commits the state it found, the word added to its results. -/
theorem statusReadChangesNothing : Obligations.StatusReadChangesNothing := fun _ hf => State.commit_live hf

theorem not_midTransfer_iff (s : State) : (!midTransfer s) = true ↔ s.dec.state ≠ .transfer := by
  simp [midTransfer]

theorem dataRequest_off {s : State} (h : s.bank.dmaDir = 0#2) : dataRequest s = false := if_pos h

/-- With DMA from VRAM the request is the decoder's readiness (45_bus_reads R329). -/
theorem dataRequest_fromVram {s : State} (h : s.bank.dmaDir = 3#2) : dataRequest s = !midTransfer s := by
  simp [dataRequest, h]

/-- With DMA to the block, by FIFO or from the CPU, data is always requested (45_bus_reads R329). -/
theorem dataRequest_toBlock {s : State} (h0 : s.bank.dmaDir ≠ 0#2) (h3 : s.bank.dmaDir ≠ 3#2) :
    dataRequest s = true := by rw [dataRequest, if_neg h0, if_neg h3]

/-- Bit `j` of a slice that stands just above `b`. -/
theorem getLsbD_append_slice {m n i w : Nat} (v : BitVec m) (b : BitVec n) (j : Nat) (h : j < w) :
    (v.extractLsb' i w ++ b).getLsbD (n + j) = v.getLsbD (i + j) := by
  rw [BitVec.getLsbD_append, if_neg (by omega), Nat.add_sub_cancel_left, BitVec.getLsbD_extractLsb', decide_eq_true h,
    Bool.true_and]

/-- Bit 27 of the status word: three fields stand above it (45_bus_reads R326). -/
theorem getLsbD_statusWord_ready (s : State) : (statusWord s).getLsbD 27 = !midTransfer s := by
  unfold statusWord
  iterate 3 refine (getLsbD_append_of_lt _ _ (by decide)).trans ?_
  exact getLsbD_append_ofBool _ _

/-- Settles O45: the fields stand side by side, so a bit is looked up below every field above its own and then read in
that field; `dataRequest` goes by its cases. -/
theorem statusWordLayout : Obligations.StatusWordLayout := by
  intro s
  refine ⟨?drawMode, ?setMask, ?checkMask, ?one13, ?reverse, ?texDisable, ?hres2, ?hres1, ?vres, ?videoStd, ?depth,
    ?interlace, ?displayOff, getLsbD_statusWord_irq s, ?request, ?one26, ?ready, ?one28, ?dmaDir, ?odd,
    dataRequest_off, fun h => dataRequest_toBlock (by simp [h]) (by simp [h]),
    fun h => dataRequest_toBlock (by simp [h]) (by simp [h]),
    fun h => by rw [dataRequest_fromVram h, not_midTransfer_iff]⟩
  case ready => rw [getLsbD_statusWord_ready, not_midTransfer_iff]
  all_goals
    unfold statusWord
    repeat refine (getLsbD_append_of_lt _ _ (by decide)).trans ?_
    repeat refine (extract_append_low _ _ (by decide)).trans ?_
  case drawMode => exact BitVec.extractLsb'_eq_self
  case hres1 | dmaDir => exact extract_append_left _ _
  case setMask | checkMask | displayOff | request | odd => exact getLsbD_append_ofBool _ _
  case one13 | one26 | one28 => exact getLsbD_append_ofBool true _
  case reverse | texDisable | hres2 | vres => exact getLsbD_append_slice _ _ 0 (by decide)
  case videoStd => exact getLsbD_append_slice _ _ 1 (by decide)
  case depth => exact getLsbD_append_slice _ _ 2 (by decide)
  case interlace => exact getLsbD_append_slice _ _ 3 (by decide)

end Sys2Proof.Machine
end

section
/-! SUPPORT. The timing engine (46_timing_engine): what one `Step` does, `Step`s that stay within a frame, the frame of
263 lines, and that no other transaction moves the time. -/

namespace Sys2Proof.Machine

/-! ## One `Step` -/

/-- Both branches of the wrap test as one equation (46_timing_engine R342 to R346). -/
theorem elapseTiming_eq (n : Nat) (s : State) :
    elapseTiming n s =
      let reached := s.timing.line + (s.timing.dot + n) / s.cfg.dotsPerLine
      let line := if linesTotal s ≤ reached then 0 else reached
      let frame := if linesTotal s ≤ reached then s.timing.frame + 1#32 else s.timing.frame
      ({ dot := (s.timing.dot + n) % s.cfg.dotsPerLine
         line := line
         frame := frame
         odd := decide (line < vblankStart s)
           && if s.bank.dispMode.getLsbD 2 then frame.getLsbD 0 else line.testBit 0 },
       decide (linesTotal s ≤ reached)) := by
  by_cases h : linesTotal s ≤ s.timing.line + (s.timing.dot + n) / s.cfg.dotsPerLine
  · simp only [elapseTiming_wrap h, if_pos h, decide_eq_true h]
  · simp only [elapseTiming_within h, if_neg h, decide_eq_false h]

/-- Settles O50: the next state of `Step`, its timing written out with the totals of the video standard. -/
theorem stepAdvancesTime : Obligations.StepAdvancesTime := by
  intro cycles s hf
  rw [exec_step hf, elapseTiming_eq]
  rfl

/-! ## Two `Step`s within a frame -/

/-- The dots carried over and the lines turned add up. -/
theorem carried_dots_lines (dot a b : Nat) {d : Nat} (hd : 0 < d) :
    ((dot + a) % d + b) % d = (dot + (a + b)) % d
    ∧ (dot + a) / d + ((dot + a) % d + b) / d = (dot + (a + b)) / d := by
  rw [← Nat.add_assoc]
  refine ⟨Nat.mod_add_mod .., ?_⟩
  calc (dot + a) / d + ((dot + a) % d + b) / d
      = ((dot + a) % d + b + d * ((dot + a) / d)) / d := by rw [Nat.add_mul_div_left _ _ hd, Nat.add_comm]
    _ = (dot + a + b) / d := by rw [Nat.add_right_comm, Nat.mod_add_div]

/-- Elapsing twice within a frame; what stands in `results` between the two does not matter (46_timing_engine R341). -/
theorem elapseTiming_add {a b : Nat} {s : State} (hd : 0 < s.cfg.dotsPerLine)
    (h : s.timing.line + (s.timing.dot + (a + b)) / s.cfg.dotsPerLine < linesTotal s) (rs : List BusResult) :
    (elapseTiming b { s with timing := (elapseTiming a s).1, results := rs }).1 = (elapseTiming (a + b) s).1 := by
  obtain ⟨hdots, hlines⟩ := carried_dots_lines s.timing.dot a b hd
  have hsecond : ¬ linesTotal s ≤ s.timing.line + (s.timing.dot + a) / s.cfg.dotsPerLine
      + ((s.timing.dot + a) % s.cfg.dotsPerLine + b) / s.cfg.dotsPerLine := by
    rw [Nat.add_assoc, hlines]
    exact Nat.not_le.2 h
  have hfirst : ¬ linesTotal s ≤ s.timing.line + (s.timing.dot + a) / s.cfg.dotsPerLine :=
    fun hle => hsecond (hle.trans (Nat.le_add_right ..))
  rw [elapseTiming_within hfirst, elapseTiming_within hsecond, elapseTiming_within (Nat.not_le.2 h)]
  simp only [hdots, hlines, Nat.add_assoc]
  rfl

/-- Settles O52: both runs complete, and their timing states are those of `elapseTiming_add`. -/
theorem stepsAddUpWithinFrame : Obligations.StepsAddUpWithinFrame := by
  intro a b s hf hd hwithin
  rw [Nat.add_assoc] at hwithin
  have hfirst : runInstrs [.step a] s = .next _ := (runInstrs_singleton ..).trans (exec_step hf)
  exact ⟨_, _, (runInstrs_append hfirst [.step b]).trans ((runInstrs_singleton ..).trans (exec_step hf)), exec_step hf,
    elapseTiming_add hd hwithin _⟩

/-! ## A frame of 263 lines -/

/-- A live block at the first dot of line `l`, in NTSC, with the field parity taken from the line. -/
structure NtscLineStart (l : Nat) (s : State) : Prop where
  live : s.fault = false
  dots : 0 < s.cfg.dotsPerLine
  ntsc : s.bank.dispMode.getLsbD 3 = false
  vres : s.bank.dispMode.getLsbD 2 = false
  dot : s.timing.dot = 0
  line : s.timing.line = l

/-- The state at the first dot of line `l` of a frame in NTSC, some more results answered. -/
def State.atLine (s : State) (l : Nat) (frame : BitVec 32) (rs : List BusResult) : State :=
  { s with
    timing := { dot := 0, line := l, frame := frame, odd := decide (l < 243) && l.testBit 0 }
    results := s.results ++ rs }

theorem State.atLine_atLine (s : State) (k l : Nat) (f g : BitVec 32) (qs rs : List BusResult) :
    (s.atLine k f qs).atLine l g rs = s.atLine l g (qs ++ rs) := by
  simp [State.atLine]

theorem NtscLineStart.atLine {k : Nat} {s : State} (h : NtscLineStart k s) (l : Nat) (f : BitVec 32)
    (rs : List BusResult) : NtscLineStart l (s.atLine l f rs) :=
  ⟨h.live, h.dots, h.ntsc, h.vres, rfl, rfl⟩

/-- One line's dots turn over exactly one line (46_timing_engine R341). -/
theorem NtscLineStart.reached {l : Nat} {s : State} (h : NtscLineStart l s) :
    (s.timing.dot + s.cfg.dotsPerLine) % s.cfg.dotsPerLine = 0
    ∧ s.timing.line + (s.timing.dot + s.cfg.dotsPerLine) / s.cfg.dotsPerLine = l + 1 := by
  rw [h.dot, h.line, Nat.zero_add]
  exact ⟨Nat.mod_self _, by rw [Nat.div_self h.dots]⟩

theorem NtscLineStart.linesTotal_eq {l : Nat} {s : State} (h : NtscLineStart l s) : linesTotal s = 263 := by
  simp only [linesTotal, h.ntsc, Bool.false_eq_true, if_false]

theorem NtscLineStart.vblankStart_eq {l : Nat} {s : State} (h : NtscLineStart l s) : vblankStart s = 243 := by
  simp only [vblankStart, h.ntsc, Bool.false_eq_true, if_false]

/-- One line's dots before the last line: the next line of the same frame (46_timing_engine R342). -/
theorem exec_line_within {l : Nat} {s : State} (h : NtscLineStart l s) (hl : l < 262) :
    exec (.step s.cfg.dotsPerLine) s = .next (s.atLine (l + 1) s.timing.frame [.frameComplete false]) := by
  obtain ⟨hdots, hreached⟩ := h.reached
  have hwithin : ¬ 263 ≤ l + 1 := by omega
  rw [exec_step h.live, elapseTiming_eq]
  simp only [hdots, hreached, h.linesTotal_eq, h.vblankStart_eq, h.vres, if_neg hwithin, decide_eq_false hwithin,
    Bool.false_eq_true, if_false]
  rfl

/-- One line's dots on the last line: line 0 of the next frame (46_timing_engine R343, R346). -/
theorem exec_line_last {s : State} (h : NtscLineStart 262 s) :
    exec (.step s.cfg.dotsPerLine) s = .next (s.atLine 0 (s.timing.frame + 1#32) [.frameComplete true]) := by
  obtain ⟨hdots, hreached⟩ := h.reached
  rw [exec_step h.live, elapseTiming_eq]
  simp only [hdots, hreached, h.linesTotal_eq, h.vblankStart_eq, h.vres, Bool.false_eq_true, if_false]
  rfl

/-- The calls of a frame up to its last line: by induction, one `exec_line_within` a call. -/
theorem runInstrs_lines {s : State} (h : NtscLineStart 0 s) {k : Nat} (h1 : 1 ≤ k) (hk : k ≤ 262) :
    runInstrs (List.replicate k (.step s.cfg.dotsPerLine)) s =
      .next (s.atLine k s.timing.frame (List.replicate k (.frameComplete false))) := by
  induction k, h1 using Nat.le_induction with
  | base => exact (runInstrs_singleton ..).trans (exec_line_within h (by omega))
  | succ k _ ih =>
    rw [List.replicate_succ', runInstrs_append (ih (by omega)), runInstrs_singleton, List.replicate_succ',
      ← State.atLine_atLine]
    exact exec_line_within (h.atLine k _ _) (by omega)

/-- The call that ends the frame, after the 262 before it (46_timing_engine R352). -/
theorem runInstrs_frame {s : State} (h : NtscLineStart 0 s) :
    runInstrs (List.replicate 263 (.step s.cfg.dotsPerLine)) s =
      .next (s.atLine 0 (s.timing.frame + 1#32)
        (List.replicate 262 (.frameComplete false) ++ [.frameComplete true])) := by
  rw [List.replicate_succ', runInstrs_append (runInstrs_lines h (by omega) (Nat.le_refl 262)), runInstrs_singleton,
    ← State.atLine_atLine]
  exact exec_line_last (h.atLine 262 _ _)

/-- Settles O51: 262 calls within the frame by `runInstrs_lines`, and the one that ends it. -/
theorem ntscFrameTakes263Lines : Obligations.NtscFrameTakes263Lines := by
  intro s k hf hd hntsc hvres hdot hline h1 hk
  have hstart : NtscLineStart 0 s := ⟨hf, hd, hntsc, hvres, hdot, hline⟩
  by_cases hlast : k = 263
  · subst hlast
    rw [runInstrs_frame hstart, State.atLine, ← List.append_assoc]
    rfl
  · rw [runInstrs_lines hstart h1 (by omega), Nat.min_eq_left (by omega), if_neg hlast, if_neg hlast, if_neg hlast,
      List.append_nil]
    rfl

/-! ## Who moves the time -/

/-- A dispatched command leaves the parameters alone. -/
theorem cfg_of_dispatch {k : DecKind} {w : Word} {s t : State} (h : DispatchNext k w s t) : t.cfg = s.cfg := by
  cases h with
  | fill _ c pos size ht | emit _ es ht =>
    subst ht
    rfl
  | copyVramVram _ src dst size ht =>
    rw [reservedCheck_eq, copyOrAbort] at ht
    split at ht
    all_goals
      subst ht
      rfl
  | copyCpuVram _ dst size ht | copyVramCpu _ src size ht =>
    rw [reservedCheck_eq] at ht
    subst ht
    rfl

/-- Every step keeps the parameters, and all but a `Step` keep the timing state (46_timing_engine R350). -/
theorem step_time {s t : State} (h : step s = .next t) :
    t.cfg = s.cfg ∧ (t.timing = s.timing ∨ ∃ cycles rest, s.pending = .elapse cycles :: rest) := by
  cases step_next h with
  | idle _ ht =>
    subst ht
    exact ⟨rfl, .inl rfl⟩
  | control w rest _ ht =>
    obtain ⟨-, -, htiming, -, -, hcfg, -⟩ := (control_next ht).frame
    exact ⟨hcfg, .inl htiming⟩
  | readData rest _ ht =>
    obtain ⟨_, _, _, _, _, rfl⟩ := readData_next ht
    exact ⟨rfl, .inl rfl⟩
  | readStatus rest _ ht =>
    obtain rfl := readStatus_next ht
    exact ⟨rfl, .inl rfl⟩
  | elapse n rest hp ht =>
    obtain rfl := step_cycles_next ht
    exact ⟨rfl, .inr ⟨n, rest, hp⟩⟩
  | backend x y v sm cm rest _ ht =>
    obtain rfl := backendWrite_next ht
    exact ⟨rfl, .inl rfl⟩
  | immediate w rest _ _ _ ht =>
    obtain ⟨_, _, rfl, -⟩ := immediate_next ht
    exact ⟨rfl, .inl rfl⟩
  | start w rest k _ _ _ ht =>
    subst ht
    exact ⟨rfl, .inl rfl⟩
  | argument w rest _ _ _ ht =>
    subst ht
    exact ⟨rfl, .inl rfl⟩
  | dispatch w rest i _ _ _ hk hd ht =>
    have hnext := dispatch_next hk hd ht
    obtain ⟨hkept, -⟩ := registers_of_dispatch hnext
    exact ⟨(cfg_of_dispatch hnext).trans rfl, .inl (hkept.timing.trans rfl)⟩
  | data w rest _ _ ht =>
    obtain ⟨_, _, _, he, -⟩ := copyDataWord_frame w (s.setPending rest)
    rw [he] at ht
    subst ht
    exact ⟨rfl, .inl rfl⟩

/-- Settles O54: the power-on state by evaluation, the steps by `step_time`. -/
theorem timeMovesOnlyInStep : Obligations.TimeMovesOnlyInStep := by
  refine ⟨rfl, fun s t h => ?_⟩
  obtain ⟨hcfg, htime⟩ := step_time h
  exact ⟨hcfg, fun hne => htime.resolve_left hne⟩

end Sys2Proof.Machine
end

section
/-! SUPPORT. What sets and what clears the IRQ latch, over all steps (60_exceptions R367). -/

namespace Sys2Proof

/-- A control word is its opcode below two bits and above its argument. -/
theorem append_op1Of_append_colorOf (w : Word) : w.extractLsb' 30 2 ++ (op1Of w ++ colorOf w) = w := by
  rw [op1Of, colorOf, BitVec.extractLsb'_append_extractLsb'_eq_extractLsb' (by rfl),
    BitVec.extractLsb'_append_extractLsb'_eq_extractLsb' (by rfl)]
  exact BitVec.extractLsb'_eq_self

theorem decodeImmediate_irqRequest (p : Color) : decodeImmediate (0x1F#8 ++ p) = .irqRequest := by
  simp [decodeImmediate]

end Sys2Proof

namespace Sys2Proof.Machine

/-- The transaction to take next is an `IRQ_REQUEST` word at an idle decoder. -/
def RequestsIrq (s : State) : Prop :=
  s.dec.state = .idle
    ∧ ∃ (p : BitVec 24) (rest : List Transaction), s.pending = .write 0 .word (0x1F#8 ++ p) :: rest

/-- The transaction to take next is an `ACK_IRQ` or a `RESET` word, whatever its ignored bits. -/
def ClearsIrq (s : State) : Prop :=
  ∃ (top : BitVec 2) (arg : BitVec 24) (rest : List Transaction),
    s.pending = .write 4 .word (top ++ (0x02#6 ++ arg)) :: rest
      ∨ s.pending = .write 4 .word (top ++ (0x00#6 ++ arg)) :: rest

/-- A control word with one of the two opcodes is one of the two words. -/
theorem clearsIrq_of_op1Of {s : State} {w : Word} {rest : List Transaction} (hp : s.pending = .write 4 .word w :: rest)
    (hop : op1Of w = 0#6 ∨ op1Of w = 2#6) : ClearsIrq s := by
  have hw := append_op1Of_append_colorOf w
  refine ⟨w.extractLsb' 30 2, colorOf w, rest, ?_⟩
  rcases hop with hop | hop
  · exact .inr (by rw [hp, ← hop, hw])
  · exact .inl (by rw [hp, ← hop, hw])

/-! ## The two events do what they say -/

theorem irqLatch_of_requestsIrq {s t : State} (hf : s.fault = false) (he : RequestsIrq s) (h : step s = .next t) :
    t.bank.irqLatch = true := by
  obtain ⟨hidle, p, rest, hp⟩ := he
  rw [step_commandWord hp hf hidle rfl, decodeImmediate_irqRequest] at h
  rw [(State.commit_eq_next.1 h).2, State.setBank_bank]

theorem irqLatch_of_clearsIrq {s t : State} (hf : s.fault = false) (he : ClearsIrq s) (h : step s = .next t) :
    t.bank.irqLatch = false := by
  obtain ⟨top, arg, rest, hp | hp⟩ := he
  · rw [step_control hp hf, decodeGp1_ackIrq] at h
    rw [(State.commit_eq_next.1 h).2, State.setBank_bank]
  · rw [step_control hp hf, decodeGp1_reset] at h
    rw [(State.commit_eq_next.1 h).2]
    rfl

/-! ## Nothing else changes the latch -/

/-- Of the ways a step answers a next state, only the single words of an idle decoder and the control port reach the
latch. -/
theorem step_irqLatch {s t : State} (h : step s = .next t) :
    t.bank.irqLatch = s.bank.irqLatch ∨ (RequestsIrq s ∧ t.bank.irqLatch = true)
      ∨ (ClearsIrq s ∧ t.bank.irqLatch = false) := by
  cases step_next h with
  | idle _ ht =>
    subst ht
    exact .inl rfl
  | control w rest hp ht =>
    rcases (control_next ht).irq with hkept | ⟨hclear, hop⟩
    · exact .inl hkept
    · exact .inr (.inr ⟨clearsIrq_of_op1Of hp hop, hclear⟩)
  | readData rest _ ht =>
    obtain ⟨_, _, _, _, _, rfl⟩ := readData_next ht
    exact .inl rfl
  | readStatus rest _ ht =>
    obtain rfl := readStatus_next ht
    exact .inl rfl
  | elapse n rest _ ht =>
    obtain rfl := step_cycles_next ht
    exact .inl rfl
  | backend x y v sm cm rest _ ht =>
    obtain rfl := backendWrite_next ht
    exact .inl rfl
  | immediate w rest hp hidle _ ht =>
    obtain ⟨_, _, rfl, hkept | ⟨hop, hset⟩⟩ := immediate_next ht
    · exact .inl hkept
    · exact .inr (.inl ⟨⟨hidle, colorOf w, rest, by rw [hp, ← hop, opOf_append_colorOf]⟩, hset⟩)
  | start w rest k _ _ _ ht =>
    subst ht
    exact .inl rfl
  | argument w rest hp hs | dispatch w rest _ hp hs | data w rest hp hs =>
    have hkept := (registers_of_word_inside hp (by simp [hs]) h).1
    exact .inl (congrArg RegisterBank.irqLatch hkept.bank)

/-- Settles O55: a change of the latch is one of the two events, and each event gives the latch its value. -/
theorem irqLatchSources : Obligations.IrqLatchSources := by
  refine ⟨rfl, fun s t h hf => ⟨fun hs => ⟨fun ht => ?_, fun he => irqLatch_of_requestsIrq hf he h⟩,
    fun hs => ⟨fun ht => ?_, fun he => irqLatch_of_clearsIrq hf he h⟩⟩⟩
  · rcases step_irqLatch h with hkept | ⟨he, -⟩ | ⟨-, hclear⟩
    · simp [hkept, hs] at ht
    · exact he
    · simp [hclear] at ht
  · rcases step_irqLatch h with hkept | ⟨-, hset⟩ | ⟨he, -⟩
    · simp [hkept, hs] at ht
    · simp [hset] at ht
    · exact he

end Sys2Proof.Machine
end

section
/-! SUPPORT. The power-on state, and the status word after each reset (70_reset_and_hazards R391, R395). -/

namespace Sys2Proof.Machine

/-- A state with `fault` set takes no transaction, so no step clears it (60_exceptions R362). -/
theorem step_keeps_fault {s t : State} (h : step s = .next t) (hf : s.fault = true) : t.fault = true := by
  cases hp : s.pending with
  | nil =>
    rw [step_nil hp] at h
    cases h
    exact hf
  | cons tr rest => exact absurd (fault_of_step_next h hp) (by simp [hf])

/-- Settles O1: each element as the power-on state writes it, and the fault bit by `step_keeps_fault`. -/
theorem powerOnStateIsZero : Obligations.PowerOnStateIsZero :=
  ⟨rfl, ⟨rfl, rfl, rfl, rfl, rfl⟩, rfl, rfl, rfl, rfl, rfl, rfl, rfl, rfl, rfl, fun _ _ => step_keeps_fault⟩

/-- With every register 0 and no transfer under way, only the field parity is left open (45_bus_reads R326). -/
theorem statusWord_of_zero {s : State} (hbank : s.bank = RegisterBank.zero) (hdec : s.dec.state = .idle) :
    statusWord s = if s.timing.odd then 0x9C802000#32 else 0x1C802000#32 := by
  have hready : midTransfer s = false := by rw [midTransfer, hdec]; rfl
  have hrequest : dataRequest s = false := dataRequest_off (by rw [hbank]; rfl)
  rw [statusWord, hready, hrequest, hbank]
  cases s.timing.odd <;> rfl

/-- Settles O2: both resets leave the registers 0 and the decoder idle; `RESET` leaves the parity as it was. -/
theorem resetStatusWord : Obligations.ResetStatusWord := by
  refine ⟨statusWord_of_zero rfl rfl, fun s hf => ?_⟩
  obtain ⟨d, hd, hexec⟩ := (controlResetClearsRegisters s hf).2
  exact ⟨_, hexec, statusWord_of_zero rfl hd.state⟩

end Sys2Proof.Machine
end
